-- ==== Sys2Proof/Word.lean ====
section
/-! DEFINITION. The words of the JVerb CORE and the small containers the other files share: bytes of the
port, 32-bit and 64-bit words, binary64 and binary32 values held as their bit patterns
(spec/00_scope.md R13, R14), and the four-fold of the tank's branches (R5). -/

namespace Sys2Proof

/-- One byte of a byte-wide transport (20_memory.md R88). -/
abbrev Byte := BitVec 8

/-- A command or status word (30_encoding.md R110). -/
abbrev Word32 := BitVec 32

/-- An operand or result word (30_encoding.md R110). -/
abbrev Word64 := BitVec 64

/-- An IEEE 754 binary64 value, as `bits64` gives it (00_scope.md R13, R14). -/
abbrev F64 := BitVec 64

/-- An IEEE 754 binary32 value, as `bits32` gives it (00_scope.md R13, R14). -/
abbrev F32 := BitVec 32

/-- One item per branch of the reverb tank, branches 0 to 3 (00_scope.md R5: `NUM_BRANCHES = 4`). -/
structure Quad (α : Type) where
  b0 : α
  b1 : α
  b2 : α
  b3 : α
deriving DecidableEq, Repr

/-- The item of branch `i`. -/
def Quad.get {α : Type} (q : Quad α) : Fin 4 → α
  | 0 => q.b0
  | 1 => q.b1
  | 2 => q.b2
  | 3 => q.b3

/-- The four items, branch 0 first. -/
def Quad.toList {α : Type} (q : Quad α) : List α := [q.b0, q.b1, q.b2, q.b3]

/-- The same item in every branch. -/
def Quad.all {α : Type} (a : α) : Quad α := ⟨a, a, a, a⟩

end Sys2Proof
end

