-- ==== Sys2Proof/Syntax.lean ====
section
/-! DEFINITION. The commands of the block: one constructor per row of spec/opcode_table.json, in its order.
A constructor carries what its row's mask leaves open (spec/30_encoding.md R121): the SEL byte of the KS, KSD and
KF rows (one flag bit for SETI), and the operand words, as many as the row fixes; a KF row leaves NOPS open
too, so it carries its operand words as a list. -/

namespace Sys2Proof

/-- A command of the block (30_encoding.md R120). -/
inductive Instr where
  /-- RESET.TANK, 49_reverb_tank.md R475. -/
  | resetTank (sr : F64)
  /-- RESET.BIQUAD, 43_biquad.md R265. -/
  | resetBiquad (sr : F64)
  /-- RESET.FDB, 41_delay_buffer.md R205. -/
  | resetFdb (sr : F64)
  /-- RESET.LFO, 42_lfo.md R233. -/
  | resetLfo (sr : F64)
  /-- RESET.ONEPOLE, 46_one_pole.md R345. -/
  | resetOnepole (sr : F64)
  /-- RESET.SDELAY, 47_simple_delay.md R371. -/
  | resetSdelay (sr : F64)
  /-- RESET.APF, 48_allpass.md R431. -/
  | resetApf (sr : F64)
  /-- RESET.NAPF, 48_allpass.md R435. -/
  | resetNapf (sr : F64)
  /-- RESET.FILTER, 44_filter_designer.md R302. -/
  | resetFilter (sr : F64)
  /-- RESET.SHELF, 45_shelving.md R330. -/
  | resetShelf (sr : F64)
  /-- PLOAD.TANK, 40_common.md R170. -/
  | ploadTank
  /-- PLOAD.BIQUAD, 40_common.md R170. -/
  | ploadBiquad
  /-- PLOAD.LFO, 40_common.md R170. -/
  | ploadLfo
  /-- PLOAD.ONEPOLE, 40_common.md R170. -/
  | ploadOnepole
  /-- PLOAD.SDELAY, 40_common.md R170. -/
  | ploadSdelay
  /-- PLOAD.APF, 40_common.md R170. -/
  | ploadApf
  /-- PLOAD.NAPF, 40_common.md R170. -/
  | ploadNapf
  /-- PLOAD.FILTER, 40_common.md R170. -/
  | ploadFilter
  /-- PLOAD.SHELF, 40_common.md R170. -/
  | ploadShelf
  /-- PSTAGE.TANK, 40_common.md R171. -/
  | pstageTank (sel : BitVec 8) (value : Word64)
  /-- PSTAGE.BIQUAD, 40_common.md R171. -/
  | pstageBiquad (sel : BitVec 8) (value : Word64)
  /-- PSTAGE.LFO, 40_common.md R171. -/
  | pstageLfo (sel : BitVec 8) (value : Word64)
  /-- PSTAGE.ONEPOLE, 40_common.md R171. -/
  | pstageOnepole (sel : BitVec 8) (value : Word64)
  /-- PSTAGE.SDELAY, 40_common.md R171. -/
  | pstageSdelay (sel : BitVec 8) (value : Word64)
  /-- PSTAGE.APF, 40_common.md R171. -/
  | pstageApf (sel : BitVec 8) (value : Word64)
  /-- PSTAGE.NAPF, 40_common.md R171. -/
  | pstageNapf (sel : BitVec 8) (value : Word64)
  /-- PSTAGE.FILTER, 40_common.md R171. -/
  | pstageFilter (sel : BitVec 8) (value : Word64)
  /-- PSTAGE.SHELF, 40_common.md R171. -/
  | pstageShelf (sel : BitVec 8) (value : Word64)
  /-- SETP.TANK, 49_reverb_tank.md R476. -/
  | setpTank
  /-- SETP.BIQUAD, 43_biquad.md R266. -/
  | setpBiquad
  /-- SETP.LFO, 42_lfo.md R234. -/
  | setpLfo
  /-- SETP.ONEPOLE, 46_one_pole.md R346. -/
  | setpOnepole
  /-- SETP.SDELAY, 47_simple_delay.md R372. -/
  | setpSdelay
  /-- SETP.APF, 48_allpass.md R432. -/
  | setpApf
  /-- SETP.NAPF, 48_allpass.md R436. -/
  | setpNapf
  /-- SETP.FILTER, 44_filter_designer.md R303. -/
  | setpFilter
  /-- SETP.SHELF, 45_shelving.md R331. -/
  | setpShelf
  /-- GETP.TANK, 40_common.md R172. -/
  | getpTank (sel : BitVec 8)
  /-- GETP.BIQUAD, 40_common.md R172. -/
  | getpBiquad (sel : BitVec 8)
  /-- GETP.FDB, 40_common.md R172. -/
  | getpFdb (sel : BitVec 8)
  /-- GETP.LFO, 40_common.md R172. -/
  | getpLfo (sel : BitVec 8)
  /-- GETP.ONEPOLE, 40_common.md R172. -/
  | getpOnepole (sel : BitVec 8)
  /-- GETP.SDELAY, 40_common.md R172. -/
  | getpSdelay (sel : BitVec 8)
  /-- GETP.APF, 40_common.md R172. -/
  | getpApf (sel : BitVec 8)
  /-- GETP.NAPF, 40_common.md R172. -/
  | getpNapf (sel : BitVec 8)
  /-- GETP.FILTER, 40_common.md R172. -/
  | getpFilter (sel : BitVec 8)
  /-- GETP.SHELF, 40_common.md R172. -/
  | getpShelf (sel : BitVec 8)
  /-- PROC.TANK, 49_reverb_tank.md R481. -/
  | procTank (x : F64)
  /-- PROC.BIQUAD, 43_biquad.md R267. -/
  | procBiquad (x : F64)
  /-- PROC.ONEPOLE, 46_one_pole.md R347. -/
  | procOnepole (x : F64)
  /-- PROC.SDELAY, 47_simple_delay.md R373. -/
  | procSdelay (x : F64)
  /-- PROC.APF, 48_allpass.md R433. -/
  | procApf (x : F64)
  /-- PROC.NAPF, 48_allpass.md R437. -/
  | procNapf (x : F64)
  /-- PROC.FILTER, 44_filter_designer.md R304. -/
  | procFilter (x : F64)
  /-- PROC.SHELF, 45_shelving.md R332. -/
  | procShelf (x : F64)
  /-- FRAME.TANK, 49_reverb_tank.md R480. -/
  | frameTank (sel : BitVec 8) (ops : List Word64)
  /-- FRAME.BIQUAD, 40_common.md R174. -/
  | frameBiquad (sel : BitVec 8) (ops : List Word64)
  /-- FRAME.FDB, 40_common.md R174. -/
  | frameFdb (sel : BitVec 8) (ops : List Word64)
  /-- FRAME.LFO, 40_common.md R174. -/
  | frameLfo (sel : BitVec 8) (ops : List Word64)
  /-- FRAME.ONEPOLE, 40_common.md R174. -/
  | frameOnepole (sel : BitVec 8) (ops : List Word64)
  /-- FRAME.SDELAY, 40_common.md R174. -/
  | frameSdelay (sel : BitVec 8) (ops : List Word64)
  /-- FRAME.APF, 40_common.md R174. -/
  | frameApf (sel : BitVec 8) (ops : List Word64)
  /-- FRAME.NAPF, 40_common.md R174. -/
  | frameNapf (sel : BitVec 8) (ops : List Word64)
  /-- FRAME.FILTER, 40_common.md R174. -/
  | frameFilter (sel : BitVec 8) (ops : List Word64)
  /-- FRAME.SHELF, 40_common.md R174. -/
  | frameShelf (sel : BitVec 8) (ops : List Word64)
  /-- CANFRAME.TANK, 40_common.md R173. -/
  | canframeTank
  /-- CANFRAME.BIQUAD, 40_common.md R173. -/
  | canframeBiquad
  /-- CANFRAME.FDB, 40_common.md R173. -/
  | canframeFdb
  /-- CANFRAME.LFO, 40_common.md R173. -/
  | canframeLfo
  /-- CANFRAME.ONEPOLE, 40_common.md R173. -/
  | canframeOnepole
  /-- CANFRAME.SDELAY, 40_common.md R173. -/
  | canframeSdelay
  /-- CANFRAME.APF, 40_common.md R173. -/
  | canframeApf
  /-- CANFRAME.NAPF, 40_common.md R173. -/
  | canframeNapf
  /-- CANFRAME.FILTER, 40_common.md R173. -/
  | canframeFilter
  /-- CANFRAME.SHELF, 40_common.md R173. -/
  | canframeShelf
  /-- BQWC.BIQUAD, 43_biquad.md R262. -/
  | bqwcBiquad (k : BitVec 8) (c : F64)
  /-- BQRC.BIQUAD, 43_biquad.md R263. -/
  | bqrcBiquad (k : BitVec 8)
  /-- BQGETS.BIQUAD, 43_biquad.md R264. -/
  | bqgetsBiquad
  /-- FLRC.FILTER, 44_filter_designer.md R301. -/
  | flrcFilter (k : BitVec 8)
  /-- CREATE.FDB, 41_delay_buffer.md R200. -/
  | createFdb (n : Word64)
  /-- CREATE.SDELAY, 47_simple_delay.md R370. -/
  | createSdelay (sr : F64) (ms : F64)
  /-- CREATE.APF, 48_allpass.md R430. -/
  | createApf (sr : F64) (ms : F64)
  /-- CREATE.NAPF, 48_allpass.md R434. -/
  | createNapf (sr : F64) (msOuter : F64) (msInner : F64)
  /-- WRITE.FDB, 41_delay_buffer.md R201. -/
  | writeFdb (x : F64)
  /-- WRITE.SDELAY, 47_simple_delay.md R375. -/
  | writeSdelay (x : F64)
  /-- READI.FDB, 41_delay_buffer.md R202. -/
  | readiFdb (d : Word64)
  /-- READF.FDB, 41_delay_buffer.md R203. -/
  | readfFdb (d : F64)
  /-- SETI.FDB, 41_delay_buffer.md R204. -/
  | setiFdb (v : Bool)
  /-- SDREAD.SDELAY, 47_simple_delay.md R376. -/
  | sdreadSdelay
  /-- SDREADT.SDELAY, 47_simple_delay.md R377. -/
  | sdreadtSdelay (ms : F64)
  /-- SDREADP.SDELAY, 47_simple_delay.md R378. -/
  | sdreadpSdelay (pct : F64)
  /-- RENDER.LFO, 42_lfo.md R232. -/
  | renderLfo
deriving DecidableEq, Repr

end Sys2Proof
end

