-- ==== Sys2Proof/WellFormed.lean ====
section
/-! DEFINITION. Which terms of `Instr` are commands a request can carry (spec/30_encoding.md R111, R114), and which of
those meet the SEL and NOPS ranges of R113, R114, R121 and R122 (step 2 of the decode order, R124). -/

namespace Sys2Proof

/-- The operand words of a KF command fit NOPS, an 8-bit count (R111, R114). Every other command's fields fit by
their types. -/
def nopsFits (ops : List Word64) : Bool := decide (ops.length < 256)

/-- The command can be encoded: its operand count fits the command word. -/
def Instr.wf : Instr → Bool
  | .frameTank _ ops => nopsFits ops
  | .frameBiquad _ ops => nopsFits ops
  | .frameFdb _ ops => nopsFits ops
  | .frameLfo _ ops => nopsFits ops
  | .frameOnepole _ ops => nopsFits ops
  | .frameSdelay _ ops => nopsFits ops
  | .frameApf _ ops => nopsFits ops
  | .frameNapf _ ops => nopsFits ops
  | .frameFilter _ ops => nopsFits ops
  | .frameShelf _ ops => nopsFits ops
  | .resetTank _ => true
  | .resetBiquad _ => true
  | .resetFdb _ => true
  | .resetLfo _ => true
  | .resetOnepole _ => true
  | .resetSdelay _ => true
  | .resetApf _ => true
  | .resetNapf _ => true
  | .resetFilter _ => true
  | .resetShelf _ => true
  | .ploadTank => true
  | .ploadBiquad => true
  | .ploadLfo => true
  | .ploadOnepole => true
  | .ploadSdelay => true
  | .ploadApf => true
  | .ploadNapf => true
  | .ploadFilter => true
  | .ploadShelf => true
  | .pstageTank _ _ => true
  | .pstageBiquad _ _ => true
  | .pstageLfo _ _ => true
  | .pstageOnepole _ _ => true
  | .pstageSdelay _ _ => true
  | .pstageApf _ _ => true
  | .pstageNapf _ _ => true
  | .pstageFilter _ _ => true
  | .pstageShelf _ _ => true
  | .setpTank => true
  | .setpBiquad => true
  | .setpLfo => true
  | .setpOnepole => true
  | .setpSdelay => true
  | .setpApf => true
  | .setpNapf => true
  | .setpFilter => true
  | .setpShelf => true
  | .getpTank _ => true
  | .getpBiquad _ => true
  | .getpFdb _ => true
  | .getpLfo _ => true
  | .getpOnepole _ => true
  | .getpSdelay _ => true
  | .getpApf _ => true
  | .getpNapf _ => true
  | .getpFilter _ => true
  | .getpShelf _ => true
  | .procTank _ => true
  | .procBiquad _ => true
  | .procOnepole _ => true
  | .procSdelay _ => true
  | .procApf _ => true
  | .procNapf _ => true
  | .procFilter _ => true
  | .procShelf _ => true
  | .canframeTank => true
  | .canframeBiquad => true
  | .canframeFdb => true
  | .canframeLfo => true
  | .canframeOnepole => true
  | .canframeSdelay => true
  | .canframeApf => true
  | .canframeNapf => true
  | .canframeFilter => true
  | .canframeShelf => true
  | .bqwcBiquad _ _ => true
  | .bqrcBiquad _ => true
  | .bqgetsBiquad => true
  | .flrcFilter _ => true
  | .createFdb _ => true
  | .createSdelay _ _ => true
  | .createApf _ _ => true
  | .createNapf _ _ _ => true
  | .writeFdb _ => true
  | .writeSdelay _ => true
  | .readiFdb _ => true
  | .readfFdb _ => true
  | .setiFdb _ => true
  | .sdreadSdelay => true
  | .sdreadtSdelay _ => true
  | .sdreadpSdelay _ => true
  | .renderLfo => true

/-- SEL is below the unit's count of fields or coefficients (R122). -/
def selBelow (sel : BitVec 8) (n : Nat) : Bool := decide (sel.toNat < n)

/-- `SEL = (IN, OUT)` with IN and OUT each 1 or 2, and NOPS = IN (R114, R121). -/
def frameFormOk (sel : BitVec 8) (ops : List Word64) : Bool :=
  (sel == 0x11#8 || sel == 0x12#8) && ops.length == 1 || (sel == 0x21#8 || sel == 0x22#8) && ops.length == 2

/-- SEL and NOPS meet R113, R114, R121 and R122. -/
def Instr.formOk : Instr → Bool
  | .resetTank _ => true
  | .resetBiquad _ => true
  | .resetFdb _ => true
  | .resetLfo _ => true
  | .resetOnepole _ => true
  | .resetSdelay _ => true
  | .resetApf _ => true
  | .resetNapf _ => true
  | .resetFilter _ => true
  | .resetShelf _ => true
  | .ploadTank => true
  | .ploadBiquad => true
  | .ploadLfo => true
  | .ploadOnepole => true
  | .ploadSdelay => true
  | .ploadApf => true
  | .ploadNapf => true
  | .ploadFilter => true
  | .ploadShelf => true
  | .pstageTank sel _ => selBelow sel 14
  | .pstageBiquad sel _ => selBelow sel 1
  | .pstageLfo sel _ => selBelow sel 2
  | .pstageOnepole sel _ => selBelow sel 1
  | .pstageSdelay sel _ => selBelow sel 2
  | .pstageApf sel _ => selBelow sel 9
  | .pstageNapf sel _ => selBelow sel 8
  | .pstageFilter sel _ => selBelow sel 4
  | .pstageShelf sel _ => selBelow sel 4
  | .setpTank => true
  | .setpBiquad => true
  | .setpLfo => true
  | .setpOnepole => true
  | .setpSdelay => true
  | .setpApf => true
  | .setpNapf => true
  | .setpFilter => true
  | .setpShelf => true
  | .getpTank sel => selBelow sel 16
  | .getpBiquad sel => selBelow sel 1
  | .getpFdb sel => selBelow sel 5
  | .getpLfo sel => selBelow sel 2
  | .getpOnepole sel => selBelow sel 1
  | .getpSdelay sel => selBelow sel 5
  | .getpApf sel => selBelow sel 9
  | .getpNapf sel => selBelow sel 8
  | .getpFilter sel => selBelow sel 4
  | .getpShelf sel => selBelow sel 4
  | .procTank _ => true
  | .procBiquad _ => true
  | .procOnepole _ => true
  | .procSdelay _ => true
  | .procApf _ => true
  | .procNapf _ => true
  | .procFilter _ => true
  | .procShelf _ => true
  | .frameTank sel ops => frameFormOk sel ops
  | .frameBiquad sel ops => frameFormOk sel ops
  | .frameFdb sel ops => frameFormOk sel ops
  | .frameLfo sel ops => frameFormOk sel ops
  | .frameOnepole sel ops => frameFormOk sel ops
  | .frameSdelay sel ops => frameFormOk sel ops
  | .frameApf sel ops => frameFormOk sel ops
  | .frameNapf sel ops => frameFormOk sel ops
  | .frameFilter sel ops => frameFormOk sel ops
  | .frameShelf sel ops => frameFormOk sel ops
  | .canframeTank => true
  | .canframeBiquad => true
  | .canframeFdb => true
  | .canframeLfo => true
  | .canframeOnepole => true
  | .canframeSdelay => true
  | .canframeApf => true
  | .canframeNapf => true
  | .canframeFilter => true
  | .canframeShelf => true
  | .bqwcBiquad k _ => selBelow k 7
  | .bqrcBiquad k => selBelow k 7
  | .bqgetsBiquad => true
  | .flrcFilter k => selBelow k 7
  | .createFdb _ => true
  | .createSdelay _ _ => true
  | .createApf _ _ => true
  | .createNapf _ _ _ => true
  | .writeFdb _ => true
  | .writeSdelay _ => true
  | .readiFdb _ => true
  | .readfFdb _ => true
  | .setiFdb _ => true
  | .sdreadSdelay => true
  | .sdreadtSdelay _ => true
  | .sdreadpSdelay _ => true
  | .renderLfo => true

end Sys2Proof
end

