-- ==== Sys2Proof/Decode.lean ====
section
/-! DEFINITION. Requests as the host sends them, their decoding and their encoding (spec/30_encoding.md R110 to
R124, 20_memory.md R88, R89). The decoder accepts exactly the rows of the opcode table; the checks
that a command's own rule makes on SEL, NOPS and the operands where its row leaves them open are in its meaning. -/

namespace Sys2Proof

/-! ## Codes -/

/-- The ten units (30_encoding.md R112, 10_state.md R30). -/
inductive UnitId where
  | tank
  | biquad
  | fdb
  | lfo
  | onepole
  | sdelay
  | apf
  | napf
  | filter
  | shelf
deriving DecidableEq, Repr

/-- The operation codes (30_encoding.md R120). -/
inductive OpCode where
  | reset
  | pload
  | pstage
  | setp
  | getp
  | proc
  | frame
  | canframe
  | bqwc
  | bqrc
  | bqgets
  | flrc
  | create
  | write
  | readi
  | readf
  | seti
  | sdread
  | sdreadt
  | sdreadp
  | render
deriving DecidableEq, Repr

/-- Why a request is no command of the table; the block answers ILLEGAL to each (60_exceptions.md R502). -/
inductive Reject where
  /-- OP is 0x00 or a reserved code (R123). -/
  | reservedOp
  /-- UNIT is 0x0A or above (R112). -/
  | reservedUnit
  /-- The pair (OP, UNIT) is absent from the map (R120). -/
  | noSuchPair
  /-- SEL is not 0x00 where the format fixes it, or has a bit set that SETI fixes (R121). -/
  | badSel
  /-- NOPS is not the row's operand count (R114). -/
  | badNops
deriving DecidableEq, Repr

/-- The unit of a UNIT code (R112). -/
def unitOfCode? (c : Nat) : Option UnitId :=
  match c with
  | 0x00 => some .tank
  | 0x01 => some .biquad
  | 0x02 => some .fdb
  | 0x03 => some .lfo
  | 0x04 => some .onepole
  | 0x05 => some .sdelay
  | 0x06 => some .apf
  | 0x07 => some .napf
  | 0x08 => some .filter
  | 0x09 => some .shelf
  | _ => none

/-- The UNIT code of a unit (R112). -/
def unitCode : UnitId → Nat
  | .tank => 0x00
  | .biquad => 0x01
  | .fdb => 0x02
  | .lfo => 0x03
  | .onepole => 0x04
  | .sdelay => 0x05
  | .apf => 0x06
  | .napf => 0x07
  | .filter => 0x08
  | .shelf => 0x09

/-- The operation of an OP code (R120). -/
def opOfCode? (c : Nat) : Option OpCode :=
  match c with
  | 0x01 => some .reset
  | 0x02 => some .pload
  | 0x03 => some .pstage
  | 0x04 => some .setp
  | 0x05 => some .getp
  | 0x06 => some .proc
  | 0x07 => some .frame
  | 0x08 => some .canframe
  | 0x10 => some .bqwc
  | 0x11 => some .bqrc
  | 0x12 => some .bqgets
  | 0x13 => some .flrc
  | 0x18 => some .create
  | 0x19 => some .write
  | 0x1A => some .readi
  | 0x1B => some .readf
  | 0x1C => some .seti
  | 0x1D => some .sdread
  | 0x1E => some .sdreadt
  | 0x1F => some .sdreadp
  | 0x20 => some .render
  | _ => none

/-- The OP code of an operation (R120). -/
def opCode : OpCode → Nat
  | .reset => 0x01
  | .pload => 0x02
  | .pstage => 0x03
  | .setp => 0x04
  | .getp => 0x05
  | .proc => 0x06
  | .frame => 0x07
  | .canframe => 0x08
  | .bqwc => 0x10
  | .bqrc => 0x11
  | .bqgets => 0x12
  | .flrc => 0x13
  | .create => 0x18
  | .write => 0x19
  | .readi => 0x1A
  | .readf => 0x1B
  | .seti => 0x1C
  | .sdread => 0x1D
  | .sdreadt => 0x1E
  | .sdreadp => 0x1F
  | .render => 0x20

/-! ## Requests and their bytes -/

/-- A request: a command word and its operand words (R110). -/
structure Request where
  cmd : Word32
  ops : List Word64
deriving DecidableEq, Repr

/-- OP, bits 31:24 of a command word (R111). -/
def cmdOp (c : Word32) : Nat := c.toNat / 2 ^ 24

/-- UNIT, bits 23:16 (R111). -/
def cmdUnit (c : Word32) : Nat := c.toNat / 2 ^ 16 % 2 ^ 8

/-- SEL, bits 15:8 (R111). -/
def cmdSel (c : Word32) : BitVec 8 := BitVec.ofNat 8 (c.toNat / 2 ^ 8)

/-- NOPS, bits 7:0 (R111). -/
def cmdNops (c : Word32) : Nat := c.toNat % 2 ^ 8

/-- The command word of the four fields (R111). -/
def mkCmd (op unit : Nat) (sel : BitVec 8) (nops : Nat) : Word32 :=
  BitVec.ofNat 32 (op * 2 ^ 24 + unit * 2 ^ 16 + sel.toNat * 2 ^ 8 + nops)

/-- The low `n` bytes of a number, least significant byte first (20_memory.md R88). -/
def bytesOfNat : Nat → Nat → List Byte
  | 0, _ => []
  | n + 1, v => BitVec.ofNat 8 v :: bytesOfNat n (v / 2 ^ 8)

/-- The number of some bytes, least significant byte first (20_memory.md R88). -/
def natOfBytes : List Byte → Nat
  | [] => 0
  | b :: bs => b.toNat + 2 ^ 8 * natOfBytes bs

/-- The first `n` bytes, where there are so many, and the rest. -/
def takeBytes : Nat → List Byte → Option (List Byte × List Byte)
  | 0, bs => some ([], bs)
  | _ + 1, [] => none
  | n + 1, b :: bs =>
    match takeBytes n bs with
    | none => none
    | some (t, r) => some (b :: t, r)

/-- `n` operand words from the front of the bytes (R110). -/
def takeOps : Nat → List Byte → Option (List Word64 × List Byte)
  | 0, bs => some ([], bs)
  | n + 1, bs =>
    match takeBytes 8 bs with
    | none => none
    | some (w, r) =>
      match takeOps n r with
      | none => none
      | some (ws, r') => some (BitVec.ofNat 64 (natOfBytes w) :: ws, r')

/-- The first whole request of the bytes: a command word and exactly NOPS operand words, whatever the outcome
of the command will be (R110). `none` while it is not complete. -/
def takeRequest (bs : List Byte) : Option (Request × List Byte) :=
  match takeBytes 4 bs with
  | none => none
  | some (c, r) =>
    match takeOps (cmdNops (BitVec.ofNat 32 (natOfBytes c))) r with
    | none => none
    | some (ops, r') => some ({ cmd := BitVec.ofNat 32 (natOfBytes c), ops := ops }, r')

/-- The bytes of a request in the order they are sent (R110, 20_memory.md R88). -/
def Request.bytes (r : Request) : List Byte :=
  bytesOfNat 4 r.cmd.toNat ++ r.ops.flatMap fun w => bytesOfNat 8 w.toNat

/-! ## Formats (R121) -/

/-- Format K: SEL 0x00, no operands. -/
def formK (i : Instr) (r : Request) : Except Reject Instr :=
  if cmdSel r.cmd = 0 then (match r.ops with | [] => .ok i | _ => .error .badNops) else .error .badSel

/-- Format KS: SEL used, no operands. -/
def formKS (f : BitVec 8 → Instr) (r : Request) : Except Reject Instr :=
  match r.ops with | [] => .ok (f (cmdSel r.cmd)) | _ => .error .badNops

/-- Format KS of SETI: SEL[7:1] zero, the flag in SEL[0]. -/
def formFlag (f : Bool → Instr) (r : Request) : Except Reject Instr :=
  if (cmdSel r.cmd).toNat < 2 then
    (match r.ops with | [] => .ok (f (decide ((cmdSel r.cmd).toNat = 1))) | _ => .error .badNops)
  else .error .badSel

/-- Format KD with one operand. -/
def formKD1 (f : Word64 → Instr) (r : Request) : Except Reject Instr :=
  if cmdSel r.cmd = 0 then (match r.ops with | [a] => .ok (f a) | _ => .error .badNops) else .error .badSel

/-- Format KD with two operands. -/
def formKD2 (f : Word64 → Word64 → Instr) (r : Request) : Except Reject Instr :=
  if cmdSel r.cmd = 0 then (match r.ops with | [a, b] => .ok (f a b) | _ => .error .badNops) else .error .badSel

/-- Format KD with three operands. -/
def formKD3 (f : Word64 → Word64 → Word64 → Instr) (r : Request) : Except Reject Instr :=
  if cmdSel r.cmd = 0 then (match r.ops with | [a, b, c] => .ok (f a b c) | _ => .error .badNops)
  else .error .badSel

/-- Format KSD: SEL used, one operand. -/
def formKSD (f : BitVec 8 → Word64 → Instr) (r : Request) : Except Reject Instr :=
  match r.ops with | [a] => .ok (f (cmdSel r.cmd) a) | _ => .error .badNops

/-- Format KF: SEL and the operands as they are; the command checks them (R121, R174, R480). -/
def formKF (f : BitVec 8 → List Word64 → Instr) (r : Request) : Except Reject Instr :=
  .ok (f (cmdSel r.cmd) r.ops)

/-! ## Decoding -/

/-- The row of a legal pair (R120). -/
def decodePair (op : OpCode) (u : UnitId) (r : Request) : Except Reject Instr :=
  match op, u with
  | .reset, .tank => formKD1 .resetTank r
  | .reset, .biquad => formKD1 .resetBiquad r
  | .reset, .fdb => formKD1 .resetFdb r
  | .reset, .lfo => formKD1 .resetLfo r
  | .reset, .onepole => formKD1 .resetOnepole r
  | .reset, .sdelay => formKD1 .resetSdelay r
  | .reset, .apf => formKD1 .resetApf r
  | .reset, .napf => formKD1 .resetNapf r
  | .reset, .filter => formKD1 .resetFilter r
  | .reset, .shelf => formKD1 .resetShelf r
  | .pload, .tank => formK .ploadTank r
  | .pload, .biquad => formK .ploadBiquad r
  | .pload, .lfo => formK .ploadLfo r
  | .pload, .onepole => formK .ploadOnepole r
  | .pload, .sdelay => formK .ploadSdelay r
  | .pload, .apf => formK .ploadApf r
  | .pload, .napf => formK .ploadNapf r
  | .pload, .filter => formK .ploadFilter r
  | .pload, .shelf => formK .ploadShelf r
  | .pstage, .tank => formKSD .pstageTank r
  | .pstage, .biquad => formKSD .pstageBiquad r
  | .pstage, .lfo => formKSD .pstageLfo r
  | .pstage, .onepole => formKSD .pstageOnepole r
  | .pstage, .sdelay => formKSD .pstageSdelay r
  | .pstage, .apf => formKSD .pstageApf r
  | .pstage, .napf => formKSD .pstageNapf r
  | .pstage, .filter => formKSD .pstageFilter r
  | .pstage, .shelf => formKSD .pstageShelf r
  | .setp, .tank => formK .setpTank r
  | .setp, .biquad => formK .setpBiquad r
  | .setp, .lfo => formK .setpLfo r
  | .setp, .onepole => formK .setpOnepole r
  | .setp, .sdelay => formK .setpSdelay r
  | .setp, .apf => formK .setpApf r
  | .setp, .napf => formK .setpNapf r
  | .setp, .filter => formK .setpFilter r
  | .setp, .shelf => formK .setpShelf r
  | .getp, .tank => formKS .getpTank r
  | .getp, .biquad => formKS .getpBiquad r
  | .getp, .fdb => formKS .getpFdb r
  | .getp, .lfo => formKS .getpLfo r
  | .getp, .onepole => formKS .getpOnepole r
  | .getp, .sdelay => formKS .getpSdelay r
  | .getp, .apf => formKS .getpApf r
  | .getp, .napf => formKS .getpNapf r
  | .getp, .filter => formKS .getpFilter r
  | .getp, .shelf => formKS .getpShelf r
  | .proc, .tank => formKD1 .procTank r
  | .proc, .biquad => formKD1 .procBiquad r
  | .proc, .onepole => formKD1 .procOnepole r
  | .proc, .sdelay => formKD1 .procSdelay r
  | .proc, .apf => formKD1 .procApf r
  | .proc, .napf => formKD1 .procNapf r
  | .proc, .filter => formKD1 .procFilter r
  | .proc, .shelf => formKD1 .procShelf r
  | .frame, .tank => formKF .frameTank r
  | .frame, .biquad => formKF .frameBiquad r
  | .frame, .fdb => formKF .frameFdb r
  | .frame, .lfo => formKF .frameLfo r
  | .frame, .onepole => formKF .frameOnepole r
  | .frame, .sdelay => formKF .frameSdelay r
  | .frame, .apf => formKF .frameApf r
  | .frame, .napf => formKF .frameNapf r
  | .frame, .filter => formKF .frameFilter r
  | .frame, .shelf => formKF .frameShelf r
  | .canframe, .tank => formK .canframeTank r
  | .canframe, .biquad => formK .canframeBiquad r
  | .canframe, .fdb => formK .canframeFdb r
  | .canframe, .lfo => formK .canframeLfo r
  | .canframe, .onepole => formK .canframeOnepole r
  | .canframe, .sdelay => formK .canframeSdelay r
  | .canframe, .apf => formK .canframeApf r
  | .canframe, .napf => formK .canframeNapf r
  | .canframe, .filter => formK .canframeFilter r
  | .canframe, .shelf => formK .canframeShelf r
  | .bqwc, .biquad => formKSD .bqwcBiquad r
  | .bqrc, .biquad => formKS .bqrcBiquad r
  | .bqgets, .biquad => formK .bqgetsBiquad r
  | .flrc, .filter => formKS .flrcFilter r
  | .create, .fdb => formKD1 .createFdb r
  | .create, .sdelay => formKD2 .createSdelay r
  | .create, .apf => formKD2 .createApf r
  | .create, .napf => formKD3 .createNapf r
  | .write, .fdb => formKD1 .writeFdb r
  | .write, .sdelay => formKD1 .writeSdelay r
  | .readi, .fdb => formKD1 .readiFdb r
  | .readf, .fdb => formKD1 .readfFdb r
  | .seti, .fdb => formFlag .setiFdb r
  | .sdread, .sdelay => formK .sdreadSdelay r
  | .sdreadt, .sdelay => formKD1 .sdreadtSdelay r
  | .sdreadp, .sdelay => formKD1 .sdreadpSdelay r
  | .render, .lfo => formK .renderLfo r
  | _, _ => .error .noSuchPair

/-- The command of a request, or why it is none (R124 steps 1 and 2). -/
def decodeRequest (r : Request) : Except Reject Instr :=
  match opOfCode? (cmdOp r.cmd) with
  | none => .error .reservedOp
  | some op =>
    match unitOfCode? (cmdUnit r.cmd) with
    | none => .error .reservedUnit
    | some u => decodePair op u r

/-- Decode the first request of the bytes: `none` while it is not complete, else what it is and the bytes
after it. -/
def decode (bs : List Byte) : Option (Except Reject Instr × List Byte) :=
  match takeRequest bs with
  | none => none
  | some (r, rest) => some (decodeRequest r, rest)

/-! ## Encoding -/

/-- The request of the given fields, NOPS being the number of operands (R111, R114). -/
def mkRequest (op : OpCode) (u : UnitId) (sel : BitVec 8) (ops : List Word64) : Request :=
  { cmd := mkCmd (opCode op) (unitCode u) sel ops.length, ops := ops }

/-- The request of a command (R120). -/
def Instr.request : Instr → Request
  | .resetTank sr => mkRequest .reset .tank 0 [sr]
  | .resetBiquad sr => mkRequest .reset .biquad 0 [sr]
  | .resetFdb sr => mkRequest .reset .fdb 0 [sr]
  | .resetLfo sr => mkRequest .reset .lfo 0 [sr]
  | .resetOnepole sr => mkRequest .reset .onepole 0 [sr]
  | .resetSdelay sr => mkRequest .reset .sdelay 0 [sr]
  | .resetApf sr => mkRequest .reset .apf 0 [sr]
  | .resetNapf sr => mkRequest .reset .napf 0 [sr]
  | .resetFilter sr => mkRequest .reset .filter 0 [sr]
  | .resetShelf sr => mkRequest .reset .shelf 0 [sr]
  | .ploadTank => mkRequest .pload .tank 0 []
  | .ploadBiquad => mkRequest .pload .biquad 0 []
  | .ploadLfo => mkRequest .pload .lfo 0 []
  | .ploadOnepole => mkRequest .pload .onepole 0 []
  | .ploadSdelay => mkRequest .pload .sdelay 0 []
  | .ploadApf => mkRequest .pload .apf 0 []
  | .ploadNapf => mkRequest .pload .napf 0 []
  | .ploadFilter => mkRequest .pload .filter 0 []
  | .ploadShelf => mkRequest .pload .shelf 0 []
  | .pstageTank sel value => mkRequest .pstage .tank sel [value]
  | .pstageBiquad sel value => mkRequest .pstage .biquad sel [value]
  | .pstageLfo sel value => mkRequest .pstage .lfo sel [value]
  | .pstageOnepole sel value => mkRequest .pstage .onepole sel [value]
  | .pstageSdelay sel value => mkRequest .pstage .sdelay sel [value]
  | .pstageApf sel value => mkRequest .pstage .apf sel [value]
  | .pstageNapf sel value => mkRequest .pstage .napf sel [value]
  | .pstageFilter sel value => mkRequest .pstage .filter sel [value]
  | .pstageShelf sel value => mkRequest .pstage .shelf sel [value]
  | .setpTank => mkRequest .setp .tank 0 []
  | .setpBiquad => mkRequest .setp .biquad 0 []
  | .setpLfo => mkRequest .setp .lfo 0 []
  | .setpOnepole => mkRequest .setp .onepole 0 []
  | .setpSdelay => mkRequest .setp .sdelay 0 []
  | .setpApf => mkRequest .setp .apf 0 []
  | .setpNapf => mkRequest .setp .napf 0 []
  | .setpFilter => mkRequest .setp .filter 0 []
  | .setpShelf => mkRequest .setp .shelf 0 []
  | .getpTank sel => mkRequest .getp .tank sel []
  | .getpBiquad sel => mkRequest .getp .biquad sel []
  | .getpFdb sel => mkRequest .getp .fdb sel []
  | .getpLfo sel => mkRequest .getp .lfo sel []
  | .getpOnepole sel => mkRequest .getp .onepole sel []
  | .getpSdelay sel => mkRequest .getp .sdelay sel []
  | .getpApf sel => mkRequest .getp .apf sel []
  | .getpNapf sel => mkRequest .getp .napf sel []
  | .getpFilter sel => mkRequest .getp .filter sel []
  | .getpShelf sel => mkRequest .getp .shelf sel []
  | .procTank x => mkRequest .proc .tank 0 [x]
  | .procBiquad x => mkRequest .proc .biquad 0 [x]
  | .procOnepole x => mkRequest .proc .onepole 0 [x]
  | .procSdelay x => mkRequest .proc .sdelay 0 [x]
  | .procApf x => mkRequest .proc .apf 0 [x]
  | .procNapf x => mkRequest .proc .napf 0 [x]
  | .procFilter x => mkRequest .proc .filter 0 [x]
  | .procShelf x => mkRequest .proc .shelf 0 [x]
  | .frameTank sel ops => mkRequest .frame .tank sel ops
  | .frameBiquad sel ops => mkRequest .frame .biquad sel ops
  | .frameFdb sel ops => mkRequest .frame .fdb sel ops
  | .frameLfo sel ops => mkRequest .frame .lfo sel ops
  | .frameOnepole sel ops => mkRequest .frame .onepole sel ops
  | .frameSdelay sel ops => mkRequest .frame .sdelay sel ops
  | .frameApf sel ops => mkRequest .frame .apf sel ops
  | .frameNapf sel ops => mkRequest .frame .napf sel ops
  | .frameFilter sel ops => mkRequest .frame .filter sel ops
  | .frameShelf sel ops => mkRequest .frame .shelf sel ops
  | .canframeTank => mkRequest .canframe .tank 0 []
  | .canframeBiquad => mkRequest .canframe .biquad 0 []
  | .canframeFdb => mkRequest .canframe .fdb 0 []
  | .canframeLfo => mkRequest .canframe .lfo 0 []
  | .canframeOnepole => mkRequest .canframe .onepole 0 []
  | .canframeSdelay => mkRequest .canframe .sdelay 0 []
  | .canframeApf => mkRequest .canframe .apf 0 []
  | .canframeNapf => mkRequest .canframe .napf 0 []
  | .canframeFilter => mkRequest .canframe .filter 0 []
  | .canframeShelf => mkRequest .canframe .shelf 0 []
  | .bqwcBiquad k c => mkRequest .bqwc .biquad k [c]
  | .bqrcBiquad k => mkRequest .bqrc .biquad k []
  | .bqgetsBiquad => mkRequest .bqgets .biquad 0 []
  | .flrcFilter k => mkRequest .flrc .filter k []
  | .createFdb n => mkRequest .create .fdb 0 [n]
  | .createSdelay sr ms => mkRequest .create .sdelay 0 [sr, ms]
  | .createApf sr ms => mkRequest .create .apf 0 [sr, ms]
  | .createNapf sr msOuter msInner => mkRequest .create .napf 0 [sr, msOuter, msInner]
  | .writeFdb x => mkRequest .write .fdb 0 [x]
  | .writeSdelay x => mkRequest .write .sdelay 0 [x]
  | .readiFdb d => mkRequest .readi .fdb 0 [d]
  | .readfFdb d => mkRequest .readf .fdb 0 [d]
  | .setiFdb v => mkRequest .seti .fdb (if v then 1 else 0) []
  | .sdreadSdelay => mkRequest .sdread .sdelay 0 []
  | .sdreadtSdelay ms => mkRequest .sdreadt .sdelay 0 [ms]
  | .sdreadpSdelay pct => mkRequest .sdreadp .sdelay 0 [pct]
  | .renderLfo => mkRequest .render .lfo 0 []

/-- The bytes of a command, as the host sends them. -/
def encode (i : Instr) : List Byte := i.request.bytes

/-! ## The opcode table's words -/

/-- The bytes of the instruction whose bits are the low `nbits` of `w`, numbered as spec/opcode_table.json does
(bit 0 is the least significant bit of the command word, the operand words follow), every bit above being
zero: the command word and the operand words its NOPS announces. -/
def tableBytes (nbits w : Nat) : List Byte := bytesOfNat (4 + 8 * (w % 2 ^ nbits % 2 ^ 8)) (w % 2 ^ nbits)

/-- The command the decoder reads from such a word. -/
def decodeTableWord (nbits w : Nat) : Option Instr :=
  match decode (tableBytes nbits w) with
  | some (.ok i, _) => some i
  | _ => none

end Sys2Proof
end

