-- ==== Sys2Proof/Config.lean ====
section
/-! DEFINITION. What an implementation fixes (spec/00_scope.md section 3, 49_reverb_tank.md R450, R451) and
the free values (00_scope.md R10, R11, 40_common.md R158): the parameters are the plain record `Params`
with the spec's defaults; the functions and the unspecified values are constants without a body. -/

namespace Sys2Proof

/-- The implementation parameters that are data: `LMAX_LOG2` (00_scope.md R6), `FTZ_THRESHOLD` (R7),
`FTZ_ONEPOLE` (R8) and the tank's constants (R12, 49_reverb_tank.md R450, R451). -/
structure Params where
  /-- `LMAX_LOG2`, R6: a delay memory holds at most `2^LMAX_LOG2` words. -/
  lmaxLog2 : Nat
  /-- `FTZ_THRESHOLD`, R7. -/
  ftzThreshold : F64
  /-- `FTZ_ONEPOLE`, R8. -/
  ftzOnepole : Bool
  /-- `PRE_BUF_MS`, R450. -/
  preBufMs : F64
  /-- `BRANCH_BUF_MS`, R450. -/
  branchBufMs : F64
  /-- `APF_BUF_MS`, R450 (outer and inner). -/
  apfBufMs : F64
  /-- `apfW`, R450: for branch i the pair `(apfW[2i], apfW[2i+1])`, outer and inner. -/
  apfW : Quad (F64 × F64)
  /-- `fixW`, R450. -/
  fixW : Quad F64
  /-- `lfoRate`, in Hz, R450. -/
  lfoRate : Quad F64
  /-- `LFO_MAXMOD_MS`, R450. -/
  lfoMaxModMs : F64
  /-- `LFO_DEPTH`, R450. -/
  lfoDepth : F64
  /-- `OUTER_G`, R450. -/
  outerG : F64
  /-- `INNER_G`, R450. -/
  innerG : F64
  /-- `TAP_W`, R450. -/
  tapW : F64
  /-- The left taps start with `+`, R451. -/
  leftStartsPlus : Bool
  /-- The right taps start with `+`, R451. -/
  rightStartsPlus : Bool
deriving DecidableEq, Repr

/-- The spec's default values: R6 (the suggested 20), R7 (the binary64 nearest 1.175494351e-38), R8,
49_reverb_tank.md R450 and R451. Each pattern is the binary64 value nearest the decimal of the table
(00_scope.md R14); the tests check every one against its decimal. -/
def Params.default : Params where
  lmaxLog2 := 20
  ftzThreshold := 0x38100000000A639B#64
  ftzOnepole := true
  preBufMs := 0x4059000000000000#64
  branchBufMs := 0x4059000000000000#64
  apfBufMs := 0x4059000000000000#64
  apfW := ⟨(0x3FD449BA5E353F7D#64, 0x3FDFAE147AE147AE#64), (0x3FE8FDF3B645A1CB#64, 0x3FE1A9FBE76C8B44#64),
    (0x3FDBB645A1CAC083#64, 0x3FEC49BA5E353F7D#64), (0x3FE27EF9DB22D0E5#64, 0x3FEEB851EB851EB8#64)⟩
  fixW := ⟨0x3FF0000000000000#64, 0x3FEBEF9DB22D0E56#64, 0x3FE69FBE76C8B439#64, 0x3FE55810624DD2F2#64⟩
  lfoRate := ⟨0x3FC3333333333333#64, 0x3FD51EB851EB851F#64, 0x3FE23D70A3D70A3D#64, 0x3FE75C28F5C28F5C#64⟩
  lfoMaxModMs := 0x3FD3333333333333#64
  lfoDepth := 0x3FF0000000000000#64
  outerG := 0x3FE0000000000000#64
  innerG := 0xBFE0000000000000#64
  tapW := 0x3FE69FBE76C8B439#64
  leftStartsPlus := true
  rightStartsPlus := false

namespace Config

/-- `POW` of 00_scope.md R10, away from its exact cases (`Machine.fpow` adds those). Nothing else is
assumed of it. -/
opaque pow : F64 → F64 → F64

/-- `TAN` of 00_scope.md R10, away from its exact cases (`Machine.ftan` adds those). -/
opaque tan : F64 → F64

/-- `DRAW` of 00_scope.md R11: the value of draw number `n`, any binary64 value under no law. -/
opaque draw : Nat → F64

/-- The sign of the NaN produced at draw number `n` (40_common.md R158: unspecified). -/
opaque nanSign : Nat → Bool

/-- One less than the fraction field of the binary64 NaN produced at draw number `n` (40_common.md R158):
the fraction of a NaN is 1 to 2^52 - 1. -/
opaque nanPayload64 : Nat → Fin 4503599627370495

/-- One less than the fraction field of the binary32 NaN produced at draw number `n` (40_common.md R158):
the fraction of a NaN is 1 to 2^23 - 1. -/
opaque nanPayload32 : Nat → Fin 8388607

/-- DESIGN CHOICE (log 6), safe: which of two operands that compare equal and differ in pattern (a +0.0 and
a -0.0) minNum or maxNum returns at draw number `n`; 00_scope.md R17 does not say. -/
opaque pickFirst : Nat → Bool

/-- DESIGN CHOICE (log 20), safe: which of the two values that 40_common.md R156 gives for `clamp01(NaN)` is
meant, the 0.0 of its text (`true`) or the 1.0 of its formula under 00_scope.md R17 (`false`). -/
opaque clampNaNIsZero : Bool

end Config

end Sys2Proof
end

