-- ==== Sys2Proof/Machine/Float.lean ====
section
/-! DEFINITION. IEEE 754 arithmetic on bit patterns (spec/00_scope.md R13 to R17): unpack to an integer and a
power of two, compute exactly, round once to nearest even. A result that is a NaN is `none` here:
its sign and payload are free values (40_common.md R158) that Machine/Effects.lean supplies. -/

namespace Sys2Proof.Machine

/-- A binary interchange format: `fb` fraction bits, `eb` exponent bits (00_scope.md R13). -/
structure Fmt where
  fb : Nat
  eb : Nat
deriving DecidableEq, Repr

/-- binary64: exponent in bits 62:52, fraction in bits 51:0 (R13). -/
def Fmt.b64 : Fmt := ⟨52, 11⟩

/-- binary32: exponent in bits 30:23, fraction in bits 22:0 (R13). -/
def Fmt.b32 : Fmt := ⟨23, 8⟩

/-- The exponent of the last place of the subnormal numbers: -1074 and -149. -/
def Fmt.qmin (f : Fmt) : Int := 2 - 2 ^ (f.eb - 1) - f.fb

/-- The pattern of plus infinity. -/
def Fmt.inf (f : Fmt) : Nat := (2 ^ f.eb - 1) * 2 ^ f.fb

/-- `m / 2^d` rounded to the nearest integer, ties to even (R15). -/
def roundShift (m d : Nat) : Nat :=
  let n := m >>> d
  let r := m % 2 ^ d
  if 2 ^ d < 2 * r ∨ (2 * r = 2 ^ d ∧ n % 2 = 1) then n + 1 else n

/-- The pattern, without a sign, of `m * 2^e` rounded to nearest even (R15): the last place is
`2^q`, and adding the rounded significand to the biased exponent carries into it. Overflow gives infinity. -/
def roundMag (f : Fmt) (m : Nat) (e : Int) : Nat :=
  let q := max ((Nat.log2 m : Int) + e - f.fb) f.qmin
  let n := if q ≤ e then m <<< (e - q).toNat else roundShift m (q - e).toNat
  if m = 0 then 0 else min ((q - f.qmin).toNat * 2 ^ f.fb + n) f.inf

/-- The numerator `2 * floor(a * 2^k / b) + sticky` and the shift that let `a / b` be rounded once. -/
def stickyQuot (a b : Nat) : Nat × Int :=
  let k := 120 + Nat.log2 b
  let n := a <<< k
  (2 * (n / b) + (if n % b = 0 then 0 else 1), -(k : Int) - 1)

/-! ## binary64 patterns -/

/-- Bit 63 (R13). -/
def F64.sign (v : F64) : Bool := v.msb

/-- Bits 62:52 (R13). -/
def F64.expo (v : F64) : Nat := v.toNat / 2 ^ 52 % 2 ^ 11

/-- Bits 51:0 (R13). -/
def F64.frac (v : F64) : Nat := v.toNat % 2 ^ 52

def F64.isNaN (v : F64) : Bool := F64.expo v == 2047 && F64.frac v != 0

def F64.isInf (v : F64) : Bool := F64.expo v == 2047 && F64.frac v == 0

/-- Neither infinite nor a NaN. -/
def F64.isFinite (v : F64) : Bool := F64.expo v != 2047

/-- `+0.0` or `-0.0`. -/
def F64.isZero (v : F64) : Bool := F64.expo v == 0 && F64.frac v == 0

/-- The significand of a finite value as an integer: its magnitude is `mant * 2^qexp`. -/
def F64.mant (v : F64) : Nat := if F64.expo v = 0 then F64.frac v else 2 ^ 52 + F64.frac v

/-- The exponent of a finite value's last place. -/
def F64.qexp (v : F64) : Int := (max (F64.expo v) 1 : Nat) - 1075

/-- The significand with the value's sign. -/
def F64.smant (v : F64) : Int := if F64.sign v then -(F64.mant v : Int) else F64.mant v

/-- The pattern with sign `s` and the given exponent and fraction bits. -/
def F64.ofMag (s : Bool) (mag : Nat) : F64 := BitVec.ofNat 64 ((if s then 2 ^ 63 else 0) + mag)

/-- `(-1)^s * m * 2^e` rounded to binary64. -/
def F64.pack (s : Bool) (m : Nat) (e : Int) : F64 := F64.ofMag s (roundMag Fmt.b64 m e)

/-- The infinity of sign `s`. -/
def F64.inf (s : Bool) : F64 := F64.ofMag s Fmt.b64.inf

/-- The zero of sign `s`. -/
def F64.zeroOf (s : Bool) : F64 := F64.ofMag s 0

/-- The binary64 value nearest `num / den` (R14: the reading of a decimal literal). -/
def F64.nearest (num den : Nat) : F64 := F64.pack false (stickyQuot num den).1 (stickyQuot num den).2

/-! The literals of the spec's pseudocode. -/

def F64.zero : F64 := 0x0000000000000000#64
def F64.quarter : F64 := 0x3FD0000000000000#64
def F64.half : F64 := 0x3FE0000000000000#64
def F64.one : F64 := 0x3FF0000000000000#64
def F64.two : F64 := 0x4000000000000000#64
def F64.four : F64 := 0x4010000000000000#64
def F64.ten : F64 := 0x4024000000000000#64
def F64.twenty : F64 := 0x4034000000000000#64
def F64.hundred : F64 := 0x4059000000000000#64
def F64.thousand : F64 := 0x408F400000000000#64

/-- `pi`, the pattern R14 gives. -/
def F64.pi : F64 := 0x400921FB54442D18#64

/-- `0.707`, the Q of 44_filter_designer.md R296. -/
def F64.q0707 : F64 := 0x3FE69FBE76C8B439#64

/-! ## Operations of R15 -/

/-- Unary `-v` flips the sign bit and is exact (R15). -/
def F64.neg (v : F64) : F64 := v ^^^ 0x8000000000000000#64

/-- `abs(v)`: v with its sign bit cleared (R17). -/
def F64.abs (v : F64) : F64 := v &&& 0x7FFFFFFFFFFFFFFF#64

/-- `a + b` (R15); `none` is a NaN. An exact zero sum is `+0.0` unless both operands are `-0.0`. -/
def F64.add? (a b : F64) : Option F64 :=
  if F64.isNaN a || F64.isNaN b then none
  else if F64.isInf a then
    if F64.isInf b && F64.sign a != F64.sign b then none else some a
  else if F64.isInf b then some b
  else
    let e := min (F64.qexp a) (F64.qexp b)
    let n := F64.smant a * 2 ^ (F64.qexp a - e).toNat + F64.smant b * 2 ^ (F64.qexp b - e).toNat
    if n = 0 then some (F64.zeroOf (F64.sign a && F64.sign b))
    else some (F64.pack (decide (n < 0)) n.natAbs e)

/-- `a - b` (R15): the sum with `b`'s sign flipped. -/
def F64.sub? (a b : F64) : Option F64 := F64.add? a (F64.neg b)

/-- `a * b` (R15); `none` is a NaN. -/
def F64.mul? (a b : F64) : Option F64 :=
  let s := F64.sign a != F64.sign b
  if F64.isNaN a || F64.isNaN b then none
  else if F64.isInf a || F64.isInf b then
    if F64.isZero a || F64.isZero b then none else some (F64.inf s)
  else some (F64.pack s (F64.mant a * F64.mant b) (F64.qexp a + F64.qexp b))

/-- `a / b` (R15); `none` is a NaN. -/
def F64.div? (a b : F64) : Option F64 :=
  let s := F64.sign a != F64.sign b
  if F64.isNaN a || F64.isNaN b then none
  else if F64.isInf a then
    if F64.isInf b then none else some (F64.inf s)
  else if F64.isInf b then some (F64.zeroOf s)
  else if F64.isZero b then
    if F64.isZero a then none else some (F64.inf s)
  else
    let q := stickyQuot (F64.mant a) (F64.mant b)
    some (F64.pack s q.1 (F64.qexp a - F64.qexp b + q.2))

/-! ## Comparisons of R16 -/

/-- The place of a value that is not a NaN in the order of the reals; `+0.0` and `-0.0` share one. -/
def F64.key (v : F64) : Int :=
  if F64.sign v then -((v.toNat % 2 ^ 63 : Nat) : Int) else ((v.toNat % 2 ^ 63 : Nat) : Int)

/-- `a < b`, quiet: false with a NaN (R16). -/
def F64.lt (a b : F64) : Bool := !F64.isNaN a && !F64.isNaN b && decide (F64.key a < F64.key b)

/-- `a <= b`, quiet: false with a NaN (R16). -/
def F64.le (a b : F64) : Bool := !F64.isNaN a && !F64.isNaN b && decide (F64.key a ≤ F64.key b)

/-- `a == b`, quiet: false with a NaN, and `+0.0 == -0.0` (R16). -/
def F64.eq (a b : F64) : Bool := !F64.isNaN a && !F64.isNaN b && decide (F64.key a = F64.key b)

/-- `a != b`: true with a NaN (R16). -/
def F64.ne (a b : F64) : Bool := !F64.eq a b

/-! ## Conversions of R17 -/

/-- `trunc(v)` of a finite value: the nearest integer in the direction of zero (R17). The callers test for
NaN and infinities first. -/
def F64.trunc (v : F64) : Int :=
  let m : Nat := if 0 ≤ F64.qexp v then F64.mant v <<< (F64.qexp v).toNat else F64.mant v >>> (-F64.qexp v).toNat
  if F64.sign v then -(m : Int) else m

/-- `f64(i)` of an integer (R17): exact up to `2^53` in magnitude. DESIGN CHOICE (log 22): beyond it, where R17 names no
rounding, it rounds to nearest even; no command reaches an integer above `2^31`. -/
def F64.ofInt (i : Int) : F64 := F64.pack (decide (i < 0)) i.natAbs 0

/-- `pow2ceil(n)`: the smallest power of two that is at least `n` (R17). -/
def pow2ceil (n : Nat) : Nat := if n ≤ 1 then 1 else 2 ^ (Nat.log2 (n - 1) + 1)

/-! ## binary32 patterns -/

/-- Bits 30:23 (R13). -/
def F32.expo (v : F32) : Nat := v.toNat / 2 ^ 23 % 2 ^ 8

/-- Bits 22:0 (R13). -/
def F32.frac (v : F32) : Nat := v.toNat % 2 ^ 23

def F32.isNaN (v : F32) : Bool := F32.expo v == 255 && F32.frac v != 0

def F32.isInf (v : F32) : Bool := F32.expo v == 255 && F32.frac v == 0

/-- `f64(v)` of a binary32 value: exact (R17); `none` is a NaN. -/
def F32.toF64? (v : F32) : Option F64 :=
  if F32.isNaN v then none
  else if F32.isInf v then some (F64.inf v.msb)
  else
    let m := if F32.expo v = 0 then F32.frac v else 2 ^ 23 + F32.frac v
    some (F64.pack v.msb m ((max (F32.expo v) 1 : Nat) - 150))

/-- `f32(v)`: rounds to nearest even, overflow gives the infinity of the same sign (R17); `none` is a NaN. -/
def F64.toF32? (v : F64) : Option F32 :=
  let s : Nat := if F64.sign v then 2 ^ 31 else 0
  if F64.isNaN v then none
  else if F64.isInf v then some (BitVec.ofNat 32 (s + Fmt.b32.inf))
  else some (BitVec.ofNat 32 (s + roundMag Fmt.b32 (F64.mant v) (F64.qexp v)))

end Sys2Proof.Machine
end

