-- ==== Sys2Proof/Machine/Effects.lean ====
section
/-! DEFINITION. The computations of the datapath: the f64 and f32 operations of spec/00_scope.md R15 to R17 as
commands of a small state monad that counts the free values taken (R11, R20, 40_common.md R158) and
carries the command-scoped underflow indicator UF (40_common.md R150). -/

namespace Sys2Proof.Machine

/-- What a computation carries along besides its values. -/
structure Fx where
  /-- How many free values have been taken (00_scope.md R11: every draw is fresh). -/
  draws : Nat
  /-- The underflow indicator of this command (40_common.md R150). -/
  uf : Bool
deriving DecidableEq, Repr

/-- A computation of the datapath. -/
abbrev FpM (α : Type) := StateM Fx α

/-- The value a computation gives from `fx`, and what it leaves. -/
def FpM.apply {α : Type} (m : FpM α) (fx : Fx) : α × Fx := m fx

/-- Take the next free value from the source `f`. -/
def takeFree {α : Type} (f : Nat → α) : FpM α :=
  modifyGet fun fx => (f fx.draws, { fx with draws := fx.draws + 1 })

/-- `draw()` (00_scope.md R20). -/
def draw : FpM F64 := takeFree Config.draw

/-- The binary64 NaN of draw number `n`: any sign, any nonzero fraction (40_common.md R158). -/
def nan64 (n : Nat) : F64 := F64.ofMag (Config.nanSign n) (Fmt.b64.inf + ((Config.nanPayload64 n).val + 1))

/-- The binary32 NaN of draw number `n` (40_common.md R158). -/
def nan32 (n : Nat) : F32 :=
  BitVec.ofNat 32 ((if Config.nanSign n then 2 ^ 31 else 0) + (Fmt.b32.inf + ((Config.nanPayload32 n).val + 1)))

/-- The result of a binary64 operation, a NaN being a fresh draw (40_common.md R158). -/
def ofOp : Option F64 → FpM F64
  | some v => pure v
  | none => takeFree nan64

/-- The result of a binary32 operation, a NaN being a fresh draw (40_common.md R158). -/
def ofOp32 : Option F32 → FpM F32
  | some v => pure v
  | none => takeFree nan32

def fadd (a b : F64) : FpM F64 := ofOp (F64.add? a b)
def fsub (a b : F64) : FpM F64 := ofOp (F64.sub? a b)
def fmul (a b : F64) : FpM F64 := ofOp (F64.mul? a b)
def fdiv (a b : F64) : FpM F64 := ofOp (F64.div? a b)

/-- The value of a configuration function, its NaNs being fresh draws too (40_common.md R158). -/
def ofConfig (v : F64) : FpM F64 := ofOp (if F64.isNaN v then none else some v)

/-- `POW` (00_scope.md R10): 1.0 for a zero exponent of either sign, and nothing known elsewhere. -/
def fpow (x y : F64) : FpM F64 := if F64.isZero y then pure F64.one else ofConfig (Config.pow x y)

/-- `TAN` (00_scope.md R10): a zero for the zero of the same sign, and nothing known elsewhere. -/
def ftan (x : F64) : FpM F64 := if F64.isZero x then pure x else ofConfig (Config.tan x)

/-- minNum and maxNum (00_scope.md R17) by the test that says the first operand wins: with exactly one NaN the
other operand, with two a NaN (40_common.md R158), and between operands that compare equal but differ
in pattern a free choice (log 6). -/
def fpick (firstWins : Bool) (a b : F64) : FpM F64 :=
  if F64.isNaN a && F64.isNaN b then ofOp none
  else if F64.isNaN a then pure b
  else if F64.isNaN b then pure a
  else if F64.eq a b && a != b then do
    let first ← takeFree Config.pickFirst
    pure (if first then a else b)
  else pure (if firstWins then a else b)

/-- `fmin(a, b)` (00_scope.md R17). -/
def fmin (a b : F64) : FpM F64 := fpick (F64.lt a b) a b

/-- `fmax(a, b)` (00_scope.md R17). -/
def fmax (a b : F64) : FpM F64 := fpick (F64.lt b a) a b

/-- `f64(s)` of a frame sample (40_common.md R152). -/
def widen (s : F32) : FpM F64 := ofOp (F32.toF64? s)

/-- `f32(v)` of an output sample (40_common.md R152). -/
def narrow (v : F64) : FpM F32 := ofOp32 (F64.toF32? v)

/-- `bipolarToUnipolar` (40_common.md R156). -/
def bipolarToUnipolar (v : F64) : FpM F64 := do
  let h ← fmul F64.half v
  fadd h F64.half

/-- `clamp01` (40_common.md R156). DESIGN CHOICE (log 20), safe: for a NaN the rule disagrees with itself. Its text
says 0.0; its formula, `fmin` and `fmax` being minNum and maxNum (00_scope.md R17), gives 1.0. The model takes either of
the two, by a constant without a body, and draws nothing. -/
def clamp01 (u : F64) : FpM F64 :=
  if F64.isNaN u then pure (if Config.clampNaNIsZero then F64.zero else F64.one)
  else do
    let m ← fmin u F64.one
    fmax m F64.zero

/-- `lerp` (40_common.md R155). -/
def lerp (y1 y2 f : F64) : FpM F64 :=
  if F64.le F64.one f then pure y2
  else do
    let a ← fmul f y2
    let g ← fsub F64.one f
    let b ← fmul g y1
    fadd a b

/-- `dbToGain` (40_common.md R159). -/
def dbToGain (dB : F64) : FpM F64 := do
  let x ← fdiv dB F64.twenty
  fpow F64.ten x

end Sys2Proof.Machine
end

