-- ==== Sys2Proof/Machine/Units.lean ====
section
/-! DEFINITION. The parameter records (spec/10_state.md R33 to R41) and the state of each component type
(R45 to R54) as plain data. The committed record, `rec` in the spec, is the field `record`. -/

namespace Sys2Proof.Machine

/-! ## Enumerations of the records -/

/-- BIQUAD `algorithm` (10_state.md R34), codes 0 to 3 in this order. -/
inductive BqForm where
  | direct
  | canonical
  | transposeDirect
  | transposeCanonical
deriving DecidableEq, Repr

/-- LFO `waveform` (10_state.md R35), codes 0 to 2 in this order. -/
inductive Waveform where
  | triangle
  | sine
  | saw
deriving DecidableEq, Repr

/-- FILTER `algorithm` (10_state.md R40), codes 0 and 1; the codes above are reserved (30_encoding.md R123). -/
inductive ShelfKind where
  | lowShelf
  | highShelf
deriving DecidableEq, Repr

/-- TANK `density` (10_state.md R33), codes 0 and 1. -/
inductive Density where
  | sparse
  | thick
deriving DecidableEq, Repr

/-! ## Delay memory and buffer -/

/-- The words of a delay memory that differ from `+0.0`, as (index, word) pairs, indices strictly rising
(20_memory.md R80, R81): the unit of access is one whole f64 word (R83). -/
abbrev Memory := List (Nat × F64)

/-- FractionalDelayBuffer state (10_state.md R45). -/
structure Fdb where
  alloc : Bool
  /-- `L`, the length in words. -/
  len : Nat
  mask : Nat
  w : Nat
  interp : Bool
  mem : Memory
deriving DecidableEq, Repr

/-! ## Oscillator -/

/-- LFO record (10_state.md R35). -/
structure LfoRec where
  waveform : Waveform
  frequencyHz : F64
deriving DecidableEq, Repr

/-- Oscillator state (10_state.md R46). -/
structure Lfo where
  record : LfoRec
  sr : F64
  inc : F64
  p : F64
  q : F64
deriving DecidableEq, Repr

/-! ## Biquad -/

/-- BIQUAD record (10_state.md R34). -/
structure BiquadRec where
  algorithm : BqForm
deriving DecidableEq, Repr

/-- The coefficient vector, slots 0 to 6 in this order (10_state.md R47). -/
structure Coef where
  a0 : F64
  a1 : F64
  a2 : F64
  b1 : F64
  b2 : F64
  c0 : F64
  d0 : F64
deriving DecidableEq, Repr

/-- The register vector, slots 0 to 3 in this order (10_state.md R47). -/
structure BqRegs where
  xz1 : F64
  xz2 : F64
  yz1 : F64
  yz2 : F64
deriving DecidableEq, Repr

/-- RecursiveFilter state (10_state.md R47). -/
structure Biquad where
  record : BiquadRec
  coef : Coef
  s : BqRegs
deriving DecidableEq, Repr

/-! ## One-pole -/

/-- ONEPOLE record (10_state.md R36). -/
structure OnePoleRec where
  g : F64
deriving DecidableEq, Repr

/-- One-pole state (10_state.md R48); `state` is the previous output. -/
structure OnePole where
  record : OnePoleRec
  state : F64
deriving DecidableEq, Repr

/-! ## Simple delay line -/

/-- SDELAY record (10_state.md R37). -/
structure SDelayRec where
  delayTimeMSec : F64
  interpolate : Bool
deriving DecidableEq, Repr

/-- SimpleDelayLine state (10_state.md R49). -/
structure SDelay where
  record : SDelayRec
  delaySamples : F64
  sr : F64
  /-- samplesPerMSec, `sr / 1000.0`. -/
  spms : F64
  bufMs : F64
  buf : Fdb
deriving DecidableEq, Repr

/-! ## All-pass sections -/

/-- APF record (10_state.md R38). -/
structure ApfRec where
  delayTimeMSec : F64
  apfG : F64
  enableLPF : Bool
  lpfG : F64
  interpolate : Bool
  enableLFO : Bool
  lfoRateHz : F64
  lfoDepth : F64
  lfoMaxModMSec : F64
deriving DecidableEq, Repr

/-- ModulatedAllpass state (10_state.md R50). -/
structure Apf where
  record : ApfRec
  sd : SDelay
  lfo : Lfo
  lpfState : F64
deriving DecidableEq, Repr

/-- NAPF record (10_state.md R39). -/
structure NapfRec where
  outerDelayMSec : F64
  innerDelayMSec : F64
  outerG : F64
  innerG : F64
  enableLFO : Bool
  lfoRateHz : F64
  lfoDepth : F64
  lfoMaxModMSec : F64
deriving DecidableEq, Repr

/-- NestedAllpass state (10_state.md R51). -/
structure Napf where
  record : NapfRec
  outer : Apf
  inner : Apf
deriving DecidableEq, Repr

/-! ## Filter designer and shelving equalizer -/

/-- FILTER record (10_state.md R40). -/
structure FilterRec where
  algorithm : ShelfKind
  fc : F64
  q : F64
  boostCutDb : F64
deriving DecidableEq, Repr

/-- FilterDesigner state (10_state.md R52). -/
structure Filter where
  record : FilterRec
  sr : F64
  coef : Coef
  bq : Biquad
deriving DecidableEq, Repr

/-- SHELF record (10_state.md R41). -/
structure ShelfRec where
  lowFc : F64
  lowBoostCutDb : F64
  highFc : F64
  highBoostCutDb : F64
deriving DecidableEq, Repr

/-- ShelvingEqualizer state (10_state.md R53). -/
structure Shelf where
  record : ShelfRec
  lo : Filter
  hi : Filter
deriving DecidableEq, Repr

/-! ## Reverb tank -/

/-- TANK record, the RW fields of 10_state.md R33 in SEL order. -/
structure TankRec where
  density : Density
  apfDelayMaxMSec : F64
  apfDelayWeightPct : F64
  fixedDelayMaxMSec : F64
  fixedDelayWeightPct : F64
  preDelayTimeMSec : F64
  lpfG : F64
  kRT : F64
  lowShelfFc : F64
  lowShelfBoostCutDb : F64
  highShelfFc : F64
  highShelfBoostCutDb : F64
  wetLevelDb : F64
  dryLevelDb : F64
deriving DecidableEq, Repr

/-- ReverbTank state (10_state.md R54); `shelfL` and `shelfR` are `shelf[0]` and `shelf[1]`. -/
structure Tank where
  record : TankRec
  sr : F64
  pre : SDelay
  bd : Quad SDelay
  napf : Quad Napf
  lpf : Quad OnePole
  shelfL : Shelf
  shelfR : Shelf
deriving DecidableEq, Repr

end Sys2Proof.Machine
end

