-- ==== Sys2Proof/Machine/Flags.lean ====
section
/-! DEFINITION. The status word (spec/30_encoding.md R117, 60_exceptions.md R500 to R504) and the flush that sets
UF (40_common.md R150, R153, R154). -/

namespace Sys2Proof.Machine

/-- The status word: HANDLED bit 0, UF bit 1, ILLEGAL bit 2, NOTREADY bit 3, bits 31:4 zero (R117). -/
def statusWord (handled uf illegal notReady : Bool) : Word32 :=
  BitVec.ofNat 32 (handled.toNat + 2 * uf.toNat + 4 * illegal.toNat + 8 * notReady.toNat)

/-- The status of a performed command (60_exceptions.md R501, R504). -/
def statusPerformed (uf : Bool) : Word32 := statusWord true uf false false

/-- The status of a refused command (60_exceptions.md R502). -/
def statusIllegal : Word32 := statusWord false false true false

/-- The status of a command that is not ready (60_exceptions.md R503). -/
def statusNotReady : Word32 := statusWord false false false true

/-- The status of a command that is not handled (40_common.md R174). -/
def statusNotHandled : Word32 := statusWord false false false false

/-- `UF <- 1` (00_scope.md R19). -/
def setUf : FpM Unit := modify fun fx => { fx with uf := true }

/-- The flush function `FTZ` at threshold `thr` (40_common.md R153). -/
def ftz (thr v : F64) : FpM F64 :=
  if (F64.lt F64.zero v && F64.lt v thr) || (F64.lt v F64.zero && F64.lt (F64.neg thr) v) then do
    setUf
    pure F64.zero
  else pure v

/-- The flush of the one-pole recursion, applied when `FTZ_ONEPOLE` is true (40_common.md R154). -/
def ftzOnepole (p : Params) (v : F64) : FpM F64 :=
  if p.ftzOnepole then ftz p.ftzThreshold v else pure v

end Sys2Proof.Machine
end

