-- ==== Sys2Proof/Machine/Operands.lean ====
section
/-! DEFINITION. What operands mean and which are legal: SEL uses (spec/30_encoding.md R113, R121, R122), operand
types (R115, R116), sample rates, lengths and enumeration codes (40_common.md R157, R160 to R162). -/

namespace Sys2Proof.Machine

/-- `validRate(sr)`: finite and above zero (40_common.md R160). -/
def validRate (sr : F64) : Bool := F64.isFinite sr && F64.lt F64.zero sr

/-- `need(sr, ms)` (40_common.md R161), `none` being NONE: the words a buffer of `ms` milliseconds needs. -/
def need (sr ms : F64) : Option Nat :=
  match F64.div? sr F64.thousand with
  | none => none
  | some k =>
    match F64.mul? ms k with
    | none => none
    | some v => if F64.isInf v || F64.lt v F64.zero then none else some (F64.trunc v + 1).toNat

/-- The length rule of 20_memory.md R86: `pow2ceil(n) <= 2^LMAX_LOG2`. -/
def lengthFits (lmaxLog2 n : Nat) : Bool := decide (pow2ceil n ≤ 2 ^ lmaxLog2)

/-- `fits(sr, ms)` (40_common.md R161). -/
def fits (lmaxLog2 : Nat) (sr ms : F64) : Bool :=
  match need sr ms with
  | none => false
  | some n => lengthFits lmaxLog2 n

/-- The truncation of a fractional delay that is in domain: not NaN, and in `[-2^31, 2^31 - 2]`
(40_common.md R157). An infinite delay has no truncation in that range (log 10). -/
def delayIndex? (d : F64) : Option Int :=
  if F64.isFinite d && decide (-2 ^ 31 ≤ F64.trunc d ∧ F64.trunc d ≤ 2 ^ 31 - 2) then some (F64.trunc d) else none

/-- An integer delay, an s64 operand, in `[-2^31, 2^31 - 1]` (40_common.md R157, 41_delay_buffer.md R202). -/
def integerDelay? (d : Word64) : Option Int :=
  if -2 ^ 31 ≤ d.toInt ∧ d.toInt ≤ 2 ^ 31 - 1 then some d.toInt else none

/-- Bits 63:32 of an f32 operand word are zero (30_encoding.md R116). -/
def isF32Word (w : Word64) : Bool := decide (w.toNat < 2 ^ 32)

/-- `asf32(word[31:0])` (30_encoding.md R116). -/
def f32Of (w : Word64) : F32 := BitVec.ofNat 32 w.toNat

/-- `zext_64(bits32(v))`, the word of an f32 result (30_encoding.md R115). -/
def f32Word (v : F32) : Word64 := BitVec.ofNat 64 v.toNat

/-- The channel counts `{IN[7:4], OUT[3:0]}` of a FRAME with `nops` operands, where legal: each 1 or 2, and
NOPS = IN (30_encoding.md R113, R114, R121). -/
def frameForm? (sel : BitVec 8) (nops : Nat) : Option (Nat × Nat) :=
  let i := sel.toNat / 16
  let o := sel.toNat % 16
  if (i = 1 ∨ i = 2) ∧ (o = 1 ∨ o = 2) ∧ nops = i then some (i, o) else none

/-! ## Enumeration and Bool codes (40_common.md R162; 10_state.md R33 to R41) -/

def Density.ofCode? (c : Word64) : Option Density :=
  match c.toNat with
  | 0 => some .sparse
  | 1 => some .thick
  | _ => none

def Density.code : Density → Word64
  | .sparse => 0#64
  | .thick => 1#64

def BqForm.ofCode? (c : Word64) : Option BqForm :=
  match c.toNat with
  | 0 => some .direct
  | 1 => some .canonical
  | 2 => some .transposeDirect
  | 3 => some .transposeCanonical
  | _ => none

def BqForm.code : BqForm → Word64
  | .direct => 0#64
  | .canonical => 1#64
  | .transposeDirect => 2#64
  | .transposeCanonical => 3#64

def Waveform.ofCode? (c : Word64) : Option Waveform :=
  match c.toNat with
  | 0 => some .triangle
  | 1 => some .sine
  | 2 => some .saw
  | _ => none

def Waveform.code : Waveform → Word64
  | .triangle => 0#64
  | .sine => 1#64
  | .saw => 2#64

def ShelfKind.ofCode? (c : Word64) : Option ShelfKind :=
  match c.toNat with
  | 0 => some .lowShelf
  | 1 => some .highShelf
  | _ => none

def ShelfKind.code : ShelfKind → Word64
  | .lowShelf => 0#64
  | .highShelf => 1#64

def boolOfCode? (c : Word64) : Option Bool :=
  match c.toNat with
  | 0 => some false
  | 1 => some true
  | _ => none

def boolCode (b : Bool) : Word64 := if b then 1#64 else 0#64

/-- A natural as a u64 result word (30_encoding.md R115). -/
def natWord (n : Nat) : Word64 := BitVec.ofNat 64 n

/-! ## Coefficient index k = SEL (30_encoding.md R113: 0 a0, 1 a1, 2 a2, 3 b1, 4 b2, 5 c0, 6 d0) -/

def Coef.get? (c : Coef) (k : BitVec 8) : Option F64 :=
  match k.toNat with
  | 0 => some c.a0
  | 1 => some c.a1
  | 2 => some c.a2
  | 3 => some c.b1
  | 4 => some c.b2
  | 5 => some c.c0
  | 6 => some c.d0
  | _ => none

def Coef.set? (c : Coef) (k : BitVec 8) (v : F64) : Option Coef :=
  match k.toNat with
  | 0 => some { c with a0 := v }
  | 1 => some { c with a1 := v }
  | 2 => some { c with a2 := v }
  | 3 => some { c with b1 := v }
  | 4 => some { c with b2 := v }
  | 5 => some { c with c0 := v }
  | 6 => some { c with d0 := v }
  | _ => none

/-! ## Staged fields: the RW field index SEL and its value (40_common.md R171; 10_state.md R33 to R41).
`none` is ILLEGAL: no RW field of that index, or an enum or Bool code at or above the code count. -/

def TankRec.stage? (r : TankRec) (sel : BitVec 8) (v : Word64) : Option TankRec :=
  match sel.toNat with
  | 0 => (Density.ofCode? v).map fun d => { r with density := d }
  | 1 => some { r with apfDelayMaxMSec := v }
  | 2 => some { r with apfDelayWeightPct := v }
  | 3 => some { r with fixedDelayMaxMSec := v }
  | 4 => some { r with fixedDelayWeightPct := v }
  | 5 => some { r with preDelayTimeMSec := v }
  | 6 => some { r with lpfG := v }
  | 7 => some { r with kRT := v }
  | 8 => some { r with lowShelfFc := v }
  | 9 => some { r with lowShelfBoostCutDb := v }
  | 10 => some { r with highShelfFc := v }
  | 11 => some { r with highShelfBoostCutDb := v }
  | 12 => some { r with wetLevelDb := v }
  | 13 => some { r with dryLevelDb := v }
  | _ => none

def BiquadRec.stage? (r : BiquadRec) (sel : BitVec 8) (v : Word64) : Option BiquadRec :=
  match sel.toNat with
  | 0 => (BqForm.ofCode? v).map fun a => { r with algorithm := a }
  | _ => none

def LfoRec.stage? (r : LfoRec) (sel : BitVec 8) (v : Word64) : Option LfoRec :=
  match sel.toNat with
  | 0 => (Waveform.ofCode? v).map fun a => { r with waveform := a }
  | 1 => some { r with frequencyHz := v }
  | _ => none

def OnePoleRec.stage? (r : OnePoleRec) (sel : BitVec 8) (v : Word64) : Option OnePoleRec :=
  match sel.toNat with
  | 0 => some { r with g := v }
  | _ => none

def SDelayRec.stage? (r : SDelayRec) (sel : BitVec 8) (v : Word64) : Option SDelayRec :=
  match sel.toNat with
  | 0 => some { r with delayTimeMSec := v }
  | 1 => (boolOfCode? v).map fun b => { r with interpolate := b }
  | _ => none

def ApfRec.stage? (r : ApfRec) (sel : BitVec 8) (v : Word64) : Option ApfRec :=
  match sel.toNat with
  | 0 => some { r with delayTimeMSec := v }
  | 1 => some { r with apfG := v }
  | 2 => (boolOfCode? v).map fun b => { r with enableLPF := b }
  | 3 => some { r with lpfG := v }
  | 4 => (boolOfCode? v).map fun b => { r with interpolate := b }
  | 5 => (boolOfCode? v).map fun b => { r with enableLFO := b }
  | 6 => some { r with lfoRateHz := v }
  | 7 => some { r with lfoDepth := v }
  | 8 => some { r with lfoMaxModMSec := v }
  | _ => none

def NapfRec.stage? (r : NapfRec) (sel : BitVec 8) (v : Word64) : Option NapfRec :=
  match sel.toNat with
  | 0 => some { r with outerDelayMSec := v }
  | 1 => some { r with innerDelayMSec := v }
  | 2 => some { r with outerG := v }
  | 3 => some { r with innerG := v }
  | 4 => (boolOfCode? v).map fun b => { r with enableLFO := b }
  | 5 => some { r with lfoRateHz := v }
  | 6 => some { r with lfoDepth := v }
  | 7 => some { r with lfoMaxModMSec := v }
  | _ => none

def FilterRec.stage? (r : FilterRec) (sel : BitVec 8) (v : Word64) : Option FilterRec :=
  match sel.toNat with
  | 0 => (ShelfKind.ofCode? v).map fun a => { r with algorithm := a }
  | 1 => some { r with fc := v }
  | 2 => some { r with q := v }
  | 3 => some { r with boostCutDb := v }
  | _ => none

def ShelfRec.stage? (r : ShelfRec) (sel : BitVec 8) (v : Word64) : Option ShelfRec :=
  match sel.toNat with
  | 0 => some { r with lowFc := v }
  | 1 => some { r with lowBoostCutDb := v }
  | 2 => some { r with highFc := v }
  | 3 => some { r with highBoostCutDb := v }
  | _ => none

/-! ## Read fields: the field index SEL of GETP, RW and RO (40_common.md R172; 10_state.md R33 to R42).
`none` is ILLEGAL: no field of that index. -/

def Tank.field? (t : Tank) (sel : BitVec 8) : Option Word64 :=
  match sel.toNat with
  | 0 => some t.record.density.code
  | 1 => some t.record.apfDelayMaxMSec
  | 2 => some t.record.apfDelayWeightPct
  | 3 => some t.record.fixedDelayMaxMSec
  | 4 => some t.record.fixedDelayWeightPct
  | 5 => some t.record.preDelayTimeMSec
  | 6 => some t.record.lpfG
  | 7 => some t.record.kRT
  | 8 => some t.record.lowShelfFc
  | 9 => some t.record.lowShelfBoostCutDb
  | 10 => some t.record.highShelfFc
  | 11 => some t.record.highShelfBoostCutDb
  | 12 => some t.record.wetLevelDb
  | 13 => some t.record.dryLevelDb
  | 14 => some (natWord t.pre.buf.len)
  | 15 => some (natWord t.pre.buf.mask)
  | _ => none

def Biquad.field? (q : Biquad) (sel : BitVec 8) : Option Word64 :=
  match sel.toNat with
  | 0 => some q.record.algorithm.code
  | _ => none

def Fdb.field? (b : Fdb) (sel : BitVec 8) : Option Word64 :=
  match sel.toNat with
  | 0 => some (natWord b.len)
  | 1 => some (natWord b.mask)
  | 2 => some (natWord b.w)
  | 3 => some (boolCode b.interp)
  | 4 => some (boolCode b.alloc)
  | _ => none

def Lfo.field? (o : Lfo) (sel : BitVec 8) : Option Word64 :=
  match sel.toNat with
  | 0 => some o.record.waveform.code
  | 1 => some o.record.frequencyHz
  | _ => none

def OnePole.field? (h : OnePole) (sel : BitVec 8) : Option Word64 :=
  match sel.toNat with
  | 0 => some h.record.g
  | _ => none

def SDelay.field? (d : SDelay) (sel : BitVec 8) : Option Word64 :=
  match sel.toNat with
  | 0 => some d.record.delayTimeMSec
  | 1 => some (boolCode d.record.interpolate)
  | 2 => some d.delaySamples
  | 3 => some (natWord d.buf.len)
  | 4 => some d.spms
  | _ => none

def Apf.field? (a : Apf) (sel : BitVec 8) : Option Word64 :=
  match sel.toNat with
  | 0 => some a.record.delayTimeMSec
  | 1 => some a.record.apfG
  | 2 => some (boolCode a.record.enableLPF)
  | 3 => some a.record.lpfG
  | 4 => some (boolCode a.record.interpolate)
  | 5 => some (boolCode a.record.enableLFO)
  | 6 => some a.record.lfoRateHz
  | 7 => some a.record.lfoDepth
  | 8 => some a.record.lfoMaxModMSec
  | _ => none

def Napf.field? (n : Napf) (sel : BitVec 8) : Option Word64 :=
  match sel.toNat with
  | 0 => some n.record.outerDelayMSec
  | 1 => some n.record.innerDelayMSec
  | 2 => some n.record.outerG
  | 3 => some n.record.innerG
  | 4 => some (boolCode n.record.enableLFO)
  | 5 => some n.record.lfoRateHz
  | 6 => some n.record.lfoDepth
  | 7 => some n.record.lfoMaxModMSec
  | _ => none

def Filter.field? (f : Filter) (sel : BitVec 8) : Option Word64 :=
  match sel.toNat with
  | 0 => some f.record.algorithm.code
  | 1 => some f.record.fc
  | 2 => some f.record.q
  | 3 => some f.record.boostCutDb
  | _ => none

def Shelf.field? (e : Shelf) (sel : BitVec 8) : Option Word64 :=
  match sel.toNat with
  | 0 => some e.record.lowFc
  | 1 => some e.record.lowBoostCutDb
  | 2 => some e.record.highFc
  | 3 => some e.record.highBoostCutDb
  | _ => none

end Sys2Proof.Machine
end

