-- ==== Sys2Proof/Machine/Design.lean ====
section
/-! DEFINITION. The shelf designs of the FilterDesigner (spec/44_filter_designer.md R292 to R294): what maps a
design record and a sample rate to the seven coefficients. The power-on state needs it too (10_state.md R60). -/

namespace Sys2Proof.Machine

/-- `theta / 2.0` with `theta = ((2.0*pi)*fc)/sr`, the argument of TAN in R292 and R293. -/
def halfTheta (fc sr : F64) : FpM F64 := do
  let a ← fmul F64.two F64.pi
  let b ← fmul a fc
  let theta ← fdiv b sr
  fdiv theta F64.two

/-- `gamma = (1.0 - delta)/(1.0 + delta)` with `delta = beta * TAN(theta/2.0)` (R292, R293). -/
def shelfGamma (beta fc sr : F64) : FpM F64 := do
  let h ← halfTheta fc sr
  let t ← ftan h
  let delta ← fmul beta t
  let n ← fsub F64.one delta
  let d ← fadd F64.one delta
  fdiv n d

/-- LOW_SHELF (44_filter_designer.md R292). -/
def lowShelf (fc boostCutDb sr : F64) : FpM Coef := do
  let mu ← dbToGain boostCutDb
  let s ← fadd F64.one mu
  let beta ← fdiv F64.four s
  let gamma ← shelfGamma beta fc sr
  let n ← fsub F64.one gamma
  let a0 ← fdiv n F64.two
  let n' ← fsub F64.one gamma
  let a1 ← fdiv n' F64.two
  let c0 ← fsub mu F64.one
  pure { a0 := a0, a1 := a1, a2 := F64.zero, b1 := F64.neg gamma, b2 := F64.zero, c0 := c0, d0 := F64.one }

/-- HIGH_SHELF (44_filter_designer.md R293). -/
def highShelf (fc boostCutDb sr : F64) : FpM Coef := do
  let mu ← dbToGain boostCutDb
  let s ← fadd F64.one mu
  let beta ← fdiv s F64.four
  let gamma ← shelfGamma beta fc sr
  let n ← fadd F64.one gamma
  let a0 ← fdiv n F64.two
  let c0 ← fsub mu F64.one
  pure { a0 := a0, a1 := F64.neg a0, a2 := F64.zero, b1 := F64.neg gamma, b2 := F64.zero, c0 := c0, d0 := F64.one }

/-- `af_design(r, sr)` (44_filter_designer.md R294). The pass-through default that R294 starts from is
overwritten by both shelves, and no other algorithm code reaches it (30_encoding.md R123). -/
def afDesign (r : FilterRec) (sr : F64) : FpM Coef :=
  match r.algorithm with
  | .lowShelf => lowShelf r.fc r.boostCutDb sr
  | .highShelf => highShelf r.fc r.boostCutDb sr

end Sys2Proof.Machine
end

