-- ==== Sys2Proof/Machine/State.lean ====
section
/-! DEFINITION. The machine's state (spec/10_state.md), the reasons a step could stop, and the power-on
state (10_state.md R33 to R42, R60, R61; 70_reset_and_hazards.md R540). -/

namespace Sys2Proof.Machine

/-- Why a step stops with a fault: never. The block takes no traps and no command can stop it
(60_exceptions.md R512; 93_implementation_defined.md section 1: `fault` and `stuck` are not used). -/
inductive Fault where
deriving DecidableEq, Repr

/-- Why a step refuses. -/
inductive Refusal where
  /-- Raised by `exec` for an instruction that has no meaning yet, safe: the model stops where the block
  goes on. No instruction raises it. The spec's own refused outcome, ILLEGAL, is a response and a next
  state (60_exceptions.md R502), not this. -/
  | notModelled (mnemonic : String)
deriving DecidableEq, Repr

/-- The response to one request: a status word and the result words (30_encoding.md R110). -/
structure Response where
  status : Word32
  results : List Word64
deriving DecidableEq, Repr

/-- The whole block: ten units (10_state.md R30), the staging record of each but FDB (R31), and the model's
own fields `cfg`, `draws`, `rx`, `tx`. -/
structure State where
  /-- The implementation parameters (00_scope.md section 3); no command writes them (log 8). -/
  cfg : Params
  tank : Tank
  tankStg : TankRec
  biquad : Biquad
  biquadStg : BiquadRec
  fdb : Fdb
  lfo : Lfo
  lfoStg : LfoRec
  onepole : OnePole
  onepoleStg : OnePoleRec
  sdelay : SDelay
  sdelayStg : SDelayRec
  apf : Apf
  apfStg : ApfRec
  napf : Napf
  napfStg : NapfRec
  filter : Filter
  filterStg : FilterRec
  shelf : Shelf
  shelfStg : ShelfRec
  /-- How many free values have been taken (00_scope.md R11; log 4). -/
  draws : Nat
  /-- Bytes the host has sent and the block has not consumed, oldest first (30_encoding.md R110; log 1). -/
  rx : List Byte
  /-- Responses given, oldest first (30_encoding.md R110; log 2). -/
  tx : List Response
deriving DecidableEq, Repr

/-! ## Power-on values (10_state.md R33 to R42, R60) -/

def Fdb.powerOn : Fdb := { alloc := false, len := 1, mask := 0, w := 0, interp := true, mem := [] }

def LfoRec.powerOn : LfoRec := { waveform := .triangle, frequencyHz := F64.zero }

def Lfo.powerOn : Lfo :=
  { record := LfoRec.powerOn, sr := F64.zero, inc := F64.zero, p := F64.zero, q := F64.quarter }

def Coef.zero : Coef :=
  { a0 := F64.zero, a1 := F64.zero, a2 := F64.zero, b1 := F64.zero, b2 := F64.zero, c0 := F64.zero, d0 := F64.zero }

def BqRegs.zero : BqRegs := { xz1 := F64.zero, xz2 := F64.zero, yz1 := F64.zero, yz2 := F64.zero }

def BiquadRec.powerOn : BiquadRec := { algorithm := .direct }

def Biquad.powerOn : Biquad := { record := BiquadRec.powerOn, coef := Coef.zero, s := BqRegs.zero }

def OnePoleRec.powerOn : OnePoleRec := { g := F64.zero }

def OnePole.powerOn : OnePole := { record := OnePoleRec.powerOn, state := F64.zero }

def SDelayRec.powerOn : SDelayRec := { delayTimeMSec := F64.zero, interpolate := false }

def SDelay.powerOn : SDelay :=
  { record := SDelayRec.powerOn, delaySamples := F64.zero, sr := F64.zero, spms := F64.zero, bufMs := F64.zero
    buf := Fdb.powerOn }

def ApfRec.powerOn : ApfRec :=
  { delayTimeMSec := F64.zero, apfG := F64.zero, enableLPF := false, lpfG := F64.zero, interpolate := false
    enableLFO := false, lfoRateHz := F64.zero, lfoDepth := F64.zero, lfoMaxModMSec := F64.zero }

def Apf.powerOn : Apf :=
  { record := ApfRec.powerOn, sd := SDelay.powerOn, lfo := Lfo.powerOn, lpfState := F64.zero }

def NapfRec.powerOn : NapfRec :=
  { outerDelayMSec := F64.zero, innerDelayMSec := F64.zero, outerG := F64.zero, innerG := F64.zero
    enableLFO := false, lfoRateHz := F64.zero, lfoDepth := F64.one, lfoMaxModMSec := F64.zero }

def Napf.powerOn : Napf := { record := NapfRec.powerOn, outer := Apf.powerOn, inner := Apf.powerOn }

/-- `fc` 100.0, `Q` 0.707, `boostCut_dB` 0.0 (R40), with the instance's algorithm (R60). -/
def FilterRec.powerOn (k : ShelfKind) : FilterRec :=
  { algorithm := k, fc := F64.hundred, q := F64.q0707, boostCutDb := F64.zero }

/-- `af_design(rec, 44100.0)` (R60). `n` numbers the free values this design may take (log 15). -/
def powerOnCoef (k : ShelfKind) (n : Nat) : Coef :=
  ((afDesign (FilterRec.powerOn k) 0x40E5888000000000#64).apply { draws := n, uf := false }).1

def Filter.powerOn (k : ShelfKind) (n : Nat) : Filter :=
  { record := FilterRec.powerOn k, sr := 0x40E5888000000000#64, coef := powerOnCoef k n
    bq := { record := { algorithm := .transposeCanonical }, coef := powerOnCoef k n, s := BqRegs.zero } }

def ShelfRec.powerOn : ShelfRec :=
  { lowFc := F64.zero, lowBoostCutDb := F64.zero, highFc := F64.zero, highBoostCutDb := F64.zero }

def Shelf.powerOn (n : Nat) : Shelf :=
  { record := ShelfRec.powerOn, lo := Filter.powerOn .lowShelf n, hi := Filter.powerOn .highShelf (n + 64) }

def TankRec.powerOn : TankRec :=
  { density := .thick, apfDelayMaxMSec := 0x4014000000000000#64, apfDelayWeightPct := F64.hundred
    fixedDelayMaxMSec := 0x4049000000000000#64, fixedDelayWeightPct := F64.hundred, preDelayTimeMSec := F64.zero
    lpfG := F64.zero, kRT := F64.zero, lowShelfFc := F64.zero, lowShelfBoostCutDb := F64.zero
    highShelfFc := F64.zero, highShelfBoostCutDb := F64.zero, wetLevelDb := 0xC008000000000000#64
    dryLevelDb := 0xC008000000000000#64 }

def Tank.powerOn : Tank :=
  { record := TankRec.powerOn, sr := F64.zero, pre := SDelay.powerOn, bd := Quad.all SDelay.powerOn
    napf := Quad.all Napf.powerOn, lpf := Quad.all OnePole.powerOn
    shelfL := Shelf.powerOn 0, shelfR := Shelf.powerOn 128 }

/-- The machine right after power-on (10_state.md R60, R61; 70_reset_and_hazards.md R540): every unit at its
power-on values, every staging record equal to the committed one, no request pending and no response
given. `draws` starts beyond every number the power-on designs may have used (log 4, log 15). -/
def State.reset : State :=
  { cfg := Params.default
    tank := Tank.powerOn, tankStg := TankRec.powerOn
    biquad := Biquad.powerOn, biquadStg := BiquadRec.powerOn
    fdb := Fdb.powerOn
    lfo := Lfo.powerOn, lfoStg := LfoRec.powerOn
    onepole := OnePole.powerOn, onepoleStg := OnePoleRec.powerOn
    sdelay := SDelay.powerOn, sdelayStg := SDelayRec.powerOn
    apf := Apf.powerOn, apfStg := ApfRec.powerOn
    napf := Napf.powerOn, napfStg := NapfRec.powerOn
    filter := Filter.powerOn .lowShelf 256, filterStg := FilterRec.powerOn .lowShelf
    shelf := Shelf.powerOn 320, shelfStg := ShelfRec.powerOn
    draws := 1024
    rx := []
    tx := [] }

/-! ## Named updates: each replaces one unit, one staging record or the pending bytes -/

def State.setTank (s : State) (v : Tank) : State := { s with tank := v }
def State.setTankStg (s : State) (v : TankRec) : State := { s with tankStg := v }
def State.setBiquad (s : State) (v : Biquad) : State := { s with biquad := v }
def State.setBiquadStg (s : State) (v : BiquadRec) : State := { s with biquadStg := v }
def State.setFdb (s : State) (v : Fdb) : State := { s with fdb := v }
def State.setLfo (s : State) (v : Lfo) : State := { s with lfo := v }
def State.setLfoStg (s : State) (v : LfoRec) : State := { s with lfoStg := v }
def State.setOnepole (s : State) (v : OnePole) : State := { s with onepole := v }
def State.setOnepoleStg (s : State) (v : OnePoleRec) : State := { s with onepoleStg := v }
def State.setSdelay (s : State) (v : SDelay) : State := { s with sdelay := v }
def State.setSdelayStg (s : State) (v : SDelayRec) : State := { s with sdelayStg := v }
def State.setApf (s : State) (v : Apf) : State := { s with apf := v }
def State.setApfStg (s : State) (v : ApfRec) : State := { s with apfStg := v }
def State.setNapf (s : State) (v : Napf) : State := { s with napf := v }
def State.setNapfStg (s : State) (v : NapfRec) : State := { s with napfStg := v }
def State.setFilter (s : State) (v : Filter) : State := { s with filter := v }
def State.setFilterStg (s : State) (v : FilterRec) : State := { s with filterStg := v }
def State.setShelf (s : State) (v : Shelf) : State := { s with shelf := v }
def State.setShelfStg (s : State) (v : ShelfRec) : State := { s with shelfStg := v }
def State.setRx (s : State) (v : List Byte) : State := { s with rx := v }

/-- Leave the free-value counter at `n` and append a response (30_encoding.md R110). -/
def State.answer (s : State) (n : Nat) (r : Response) : State := { s with draws := n, tx := s.tx ++ [r] }

end Sys2Proof.Machine
end

