-- ==== Sys2Proof/Machine/Ops.lean ====
section
/-! DEFINITION. The shared operations: words of a delay memory (spec/20_memory.md R80 to R86), the answers of a
command (60_exceptions.md R500 to R504), and the host's end of the port (30_encoding.md R110). The block takes
no exception and returns from none (60_exceptions.md R512, R513), so there is no such operation. -/

namespace Sys2Proof.Machine

/-! ## Delay memory words -/

/-- `MemRead` (20_memory.md R81): the pattern last written, or `+0.0` for a word not written since the
memory was created or flushed. -/
def Memory.read : Memory → Nat → F64
  | [], _ => F64.zero
  | (j, v) :: m, i => if i = j then v else Memory.read m i

/-- `MemWrite` (20_memory.md R81), keeping the canonical form: indices rising, no word `+0.0` listed. -/
def Memory.write : Memory → Nat → F64 → Memory
  | [], i, v => if v = F64.zero then [] else [(i, v)]
  | (j, u) :: m, i, v =>
    if i < j then (if v = F64.zero then (j, u) :: m else (i, v) :: (j, u) :: m)
    else if i = j then (if v = F64.zero then m else (i, v) :: m)
    else (j, u) :: Memory.write m i v

/-- Every listed index is at least `lo`, rising, and below `len`, and no listed word is `+0.0`. -/
def Memory.wfFrom (len : Nat) : Nat → Memory → Bool
  | _, [] => true
  | lo, (j, v) :: m => decide (lo ≤ j) && decide (j < len) && decide (v ≠ F64.zero) && Memory.wfFrom len (j + 1) m

/-- The canonical form of a memory of `len` words. -/
def Memory.wf (len : Nat) (m : Memory) : Bool := Memory.wfFrom len 0 m

/-- `k & mask` on the two's-complement value of `k` (20_memory.md R82). -/
def andMask (k : Int) (mask : Nat) : Nat :=
  match k with
  | .ofNat n => n &&& mask
  | .negSucc n => mask ^^^ (mask &&& n)

/-! ## Answers -/

/-- The outcomes of this machine. -/
abbrev Out := Host.Outcome State Fault Refusal

/-- `ILLEGAL()` (00_scope.md R19): refused, nothing changed, no result words (60_exceptions.md R502). -/
def illegal (s : State) : Out := .next (s.answer s.draws { status := statusIllegal, results := [] })

/-- `NOTREADY()` (00_scope.md R19): nothing changed, no result words (60_exceptions.md R503). -/
def notReady (s : State) : Out := .next (s.answer s.draws { status := statusNotReady, results := [] })

/-- Not handled (60_exceptions.md R500): nothing changed, status word zero. -/
def notHandled (s : State) : Out := .next (s.answer s.draws { status := statusNotHandled, results := [] })

/-- The effects at the start of a command: UF is 0 (40_common.md R150). -/
def State.fx (s : State) : Fx := { draws := s.draws, uf := false }

/-- A performed command (60_exceptions.md R501): run `m`, which gives the new state and the result words,
and answer HANDLED with UF as the run left it. -/
def perform (s : State) (m : FpM (State × List Word64)) : Out :=
  .next ((m.apply s.fx).1.1.answer (m.apply s.fx).2.draws
    { status := statusPerformed (m.apply s.fx).2.uf, results := (m.apply s.fx).1.2 })

/-- A performed command without arithmetic. -/
def performed (s : State) (results : List Word64) : Out :=
  .next (s.answer s.draws { status := statusPerformed false, results := results })

/-- A result word or ILLEGAL (40_common.md R172). -/
def resultOrIllegal (s : State) : Option Word64 → Out
  | some v => performed s [v]
  | none => illegal s

/-- A performed update or ILLEGAL (40_common.md R171). -/
def updateOrIllegal (s : State) : Option State → Out
  | some s' => performed s' []
  | none => illegal s

/-- The host sends bytes to the block (30_encoding.md R110; log 1). It is no step of the block. -/
def State.receive (s : State) (bs : List Byte) : State := s.setRx (s.rx ++ bs)

end Sys2Proof.Machine
end

