-- ==== Sys2Proof/Machine/Lifecycle.lean ====
section
/-! DEFINITION. The lifecycle commands that are the same for every unit (spec/40_common.md section 2): PLOAD (R170),
PSTAGE (R171), GETP (R172), CANFRAME (R173), and FRAME on a unit without a frame form (R174). -/

namespace Sys2Proof.Machine

/-! ## PLOAD (R170): `u.stg <- u.rec` -/

/-- PLOAD.TANK (R170). -/
def execPloadTank (s : State) : Out := performed (s.setTankStg s.tank.record) []

/-- PLOAD.BIQUAD (R170). -/
def execPloadBiquad (s : State) : Out := performed (s.setBiquadStg s.biquad.record) []

/-- PLOAD.LFO (R170). -/
def execPloadLfo (s : State) : Out := performed (s.setLfoStg s.lfo.record) []

/-- PLOAD.ONEPOLE (R170). -/
def execPloadOnepole (s : State) : Out := performed (s.setOnepoleStg s.onepole.record) []

/-- PLOAD.SDELAY (R170). -/
def execPloadSdelay (s : State) : Out := performed (s.setSdelayStg s.sdelay.record) []

/-- PLOAD.APF (R170). -/
def execPloadApf (s : State) : Out := performed (s.setApfStg s.apf.record) []

/-- PLOAD.NAPF (R170). -/
def execPloadNapf (s : State) : Out := performed (s.setNapfStg s.napf.record) []

/-- PLOAD.FILTER (R170). -/
def execPloadFilter (s : State) : Out := performed (s.setFilterStg s.filter.record) []

/-- PLOAD.SHELF (R170). -/
def execPloadShelf (s : State) : Out := performed (s.setShelfStg s.shelf.record) []

/-! ## PSTAGE (R171): one field of the staging record -/

/-- PSTAGE.TANK (R171). -/
def execPstageTank (sel : BitVec 8) (v : Word64) (s : State) : Out :=
  updateOrIllegal s ((s.tankStg.stage? sel v).map s.setTankStg)

/-- PSTAGE.BIQUAD (R171). -/
def execPstageBiquad (sel : BitVec 8) (v : Word64) (s : State) : Out :=
  updateOrIllegal s ((s.biquadStg.stage? sel v).map s.setBiquadStg)

/-- PSTAGE.LFO (R171). -/
def execPstageLfo (sel : BitVec 8) (v : Word64) (s : State) : Out :=
  updateOrIllegal s ((s.lfoStg.stage? sel v).map s.setLfoStg)

/-- PSTAGE.ONEPOLE (R171). -/
def execPstageOnepole (sel : BitVec 8) (v : Word64) (s : State) : Out :=
  updateOrIllegal s ((s.onepoleStg.stage? sel v).map s.setOnepoleStg)

/-- PSTAGE.SDELAY (R171). -/
def execPstageSdelay (sel : BitVec 8) (v : Word64) (s : State) : Out :=
  updateOrIllegal s ((s.sdelayStg.stage? sel v).map s.setSdelayStg)

/-- PSTAGE.APF (R171). -/
def execPstageApf (sel : BitVec 8) (v : Word64) (s : State) : Out :=
  updateOrIllegal s ((s.apfStg.stage? sel v).map s.setApfStg)

/-- PSTAGE.NAPF (R171). -/
def execPstageNapf (sel : BitVec 8) (v : Word64) (s : State) : Out :=
  updateOrIllegal s ((s.napfStg.stage? sel v).map s.setNapfStg)

/-- PSTAGE.FILTER (R171). -/
def execPstageFilter (sel : BitVec 8) (v : Word64) (s : State) : Out :=
  updateOrIllegal s ((s.filterStg.stage? sel v).map s.setFilterStg)

/-- PSTAGE.SHELF (R171). -/
def execPstageShelf (sel : BitVec 8) (v : Word64) (s : State) : Out :=
  updateOrIllegal s ((s.shelfStg.stage? sel v).map s.setShelfStg)

/-! ## GETP (R172): one field of the committed record, or one read-only view -/

/-- GETP.TANK (R172). -/
def execGetpTank (sel : BitVec 8) (s : State) : Out := resultOrIllegal s (s.tank.field? sel)

/-- GETP.BIQUAD (R172). -/
def execGetpBiquad (sel : BitVec 8) (s : State) : Out := resultOrIllegal s (s.biquad.field? sel)

/-- GETP.FDB (R172). -/
def execGetpFdb (sel : BitVec 8) (s : State) : Out := resultOrIllegal s (s.fdb.field? sel)

/-- GETP.LFO (R172). -/
def execGetpLfo (sel : BitVec 8) (s : State) : Out := resultOrIllegal s (s.lfo.field? sel)

/-- GETP.ONEPOLE (R172). -/
def execGetpOnepole (sel : BitVec 8) (s : State) : Out := resultOrIllegal s (s.onepole.field? sel)

/-- GETP.SDELAY (R172). -/
def execGetpSdelay (sel : BitVec 8) (s : State) : Out := resultOrIllegal s (s.sdelay.field? sel)

/-- GETP.APF (R172). -/
def execGetpApf (sel : BitVec 8) (s : State) : Out := resultOrIllegal s (s.apf.field? sel)

/-- GETP.NAPF (R172). -/
def execGetpNapf (sel : BitVec 8) (s : State) : Out := resultOrIllegal s (s.napf.field? sel)

/-- GETP.FILTER (R172). -/
def execGetpFilter (sel : BitVec 8) (s : State) : Out := resultOrIllegal s (s.filter.field? sel)

/-- GETP.SHELF (R172). -/
def execGetpShelf (sel : BitVec 8) (s : State) : Out := resultOrIllegal s (s.shelf.field? sel)

/-! ## CANFRAME (R173): 1 for TANK, 0 otherwise -/

/-- CANFRAME.TANK (R173). -/
def execCanframeTank (s : State) : Out := performed s [1#64]

/-- CANFRAME.BIQUAD (R173). -/
def execCanframeBiquad (s : State) : Out := performed s [0#64]

/-- CANFRAME.FDB (R173). -/
def execCanframeFdb (s : State) : Out := performed s [0#64]

/-- CANFRAME.LFO (R173). -/
def execCanframeLfo (s : State) : Out := performed s [0#64]

/-- CANFRAME.ONEPOLE (R173). -/
def execCanframeOnepole (s : State) : Out := performed s [0#64]

/-- CANFRAME.SDELAY (R173). -/
def execCanframeSdelay (s : State) : Out := performed s [0#64]

/-- CANFRAME.APF (R173). -/
def execCanframeApf (s : State) : Out := performed s [0#64]

/-- CANFRAME.NAPF (R173). -/
def execCanframeNapf (s : State) : Out := performed s [0#64]

/-- CANFRAME.FILTER (R173). -/
def execCanframeFilter (s : State) : Out := performed s [0#64]

/-- CANFRAME.SHELF (R173). -/
def execCanframeShelf (s : State) : Out := performed s [0#64]

/-! ## FRAME on a unit other than TANK (R174): not handled, after the check of the form -/

/-- R174: ILLEGAL by SEL and NOPS, and not handled otherwise; the operand values are not checked. -/
def frameNotHandled (sel : BitVec 8) (ops : List Word64) (s : State) : Out :=
  match frameForm? sel ops.length with
  | none => illegal s
  | some _ => notHandled s

/-- FRAME.BIQUAD (R174). -/
def execFrameBiquad (sel : BitVec 8) (ops : List Word64) (s : State) : Out := frameNotHandled sel ops s

/-- FRAME.FDB (R174). -/
def execFrameFdb (sel : BitVec 8) (ops : List Word64) (s : State) : Out := frameNotHandled sel ops s

/-- FRAME.LFO (R174). -/
def execFrameLfo (sel : BitVec 8) (ops : List Word64) (s : State) : Out := frameNotHandled sel ops s

/-- FRAME.ONEPOLE (R174). -/
def execFrameOnepole (sel : BitVec 8) (ops : List Word64) (s : State) : Out := frameNotHandled sel ops s

/-- FRAME.SDELAY (R174). -/
def execFrameSdelay (sel : BitVec 8) (ops : List Word64) (s : State) : Out := frameNotHandled sel ops s

/-- FRAME.APF (R174). -/
def execFrameApf (sel : BitVec 8) (ops : List Word64) (s : State) : Out := frameNotHandled sel ops s

/-- FRAME.NAPF (R174). -/
def execFrameNapf (sel : BitVec 8) (ops : List Word64) (s : State) : Out := frameNotHandled sel ops s

/-- FRAME.FILTER (R174). -/
def execFrameFilter (sel : BitVec 8) (ops : List Word64) (s : State) : Out := frameNotHandled sel ops s

/-- FRAME.SHELF (R174). -/
def execFrameShelf (sel : BitVec 8) (ops : List Word64) (s : State) : Out := frameNotHandled sel ops s

end Sys2Proof.Machine
end

