-- ==== Sys2Proof/Machine/Lfo.lean ====
section
/-! DEFINITION. The Oscillator (spec/42_lfo.md): its procedures R220 to R225 and the commands of the LFO unit,
R232 to R234. -/

namespace Sys2Proof.Machine

/-- `B = 4.0 / pi` (R220). -/
def parB : F64 := 0x3FF45F306DC9C883#64

/-- `C = -4.0 / (pi * pi)` (R220). -/
def parC : F64 := 0xBFD9F02F6222C720#64

/-- `P = 0.225` (R220). -/
def parP : F64 := 0x3FCCCCCCCCCCCCCD#64

/-- `lfo_reset(o, sr)` (R221). -/
def lfoReset (o : Lfo) (sr : F64) : FpM Lfo := do
  let inc ← fdiv o.record.frequencyHz sr
  pure { o with sr := sr, inc := inc, p := F64.zero, q := F64.quarter }

/-- `wrap(c, s)` (R222). A phase outside `[0, 1)` that the two tests do not catch stays where it is (log 23). -/
def lfoWrap (c s : F64) : FpM F64 :=
  if F64.lt F64.zero s && F64.le F64.one c then fsub c F64.one
  else if F64.lt s F64.zero && F64.lt c F64.zero then fadd c F64.one
  else pure c

/-- `parSine(x)` (R223). -/
def parSine (x : F64) : FpM F64 := do
  let bx ← fmul parB x
  let cx ← fmul parC x
  let cxx ← fmul cx (F64.abs x)
  let y ← fadd bx cxx
  let yy ← fmul y (F64.abs y)
  let d ← fsub yy y
  let pd ← fmul parP d
  fadd pd y

/-- `shape(c, waveform)` (R223). -/
def lfoShape (c : F64) : Waveform → FpM F64
  | .sine => do
    let c2 ← fmul c F64.two
    let c2pi ← fmul c2 F64.pi
    let a ← fsub c2pi F64.pi
    parSine (F64.neg a)
  | .triangle => do
    let c2 ← fmul F64.two c
    let t ← fsub c2 F64.one
    let t2 ← fmul F64.two (F64.abs t)
    fsub t2 F64.one
  | .saw => do
    let c2 ← fmul F64.two c
    fsub c2 F64.one

/-- `lfo_set(o, r)` (R224). DESIGN CHOICE (log 26): an unchanged frequency keeps the increment before the first RESET too,
where 70_reset_and_hazards.md R552 says that a SETP there gives `frequency / 0.0`. -/
def lfoSet (o : Lfo) (r : LfoRec) : FpM Lfo :=
  if F64.ne r.frequencyHz o.record.frequencyHz then do
    let inc ← fdiv r.frequencyHz o.sr
    pure { o with inc := inc, record := r }
  else pure { o with record := r }

/-- The four outputs of a render (R225). -/
structure LfoOut where
  normal : F64
  inverted : F64
  quadPos : F64
  quadNeg : F64
deriving DecidableEq, Repr

/-- `lfo_render(o)` (R225). DESIGN CHOICE (log 23): the outputs are the equations' for every phase. R226 says that TRIANGLE and
SAW lie in `[-1, +1]` while the increment is below 1 in magnitude; where a SETP makes the increment 0.0 or turns its sign,
R222 leaves a stored phase outside `[0, 1)` unwrapped and the outputs leave that range. -/
def lfoRender (o : Lfo) : FpM (LfoOut × Lfo) := do
  let p ← lfoWrap o.p o.inc
  let q0 ← fadd p F64.quarter
  let q ← lfoWrap q0 F64.quarter
  let normal ← lfoShape p o.record.waveform
  let quadPos ← lfoShape q o.record.waveform
  let p' ← fadd p o.inc
  pure ({ normal := normal, inverted := F64.neg normal, quadPos := quadPos, quadNeg := F64.neg quadPos },
    { o with p := p', q := q })

/-! ## Commands of the LFO unit -/

/-- RENDER.LFO (R232). -/
def execRenderLfo (s : State) : Out :=
  perform s do
    let r ← lfoRender s.lfo
    pure (s.setLfo r.2, [r.1.normal, r.1.inverted, r.1.quadPos, r.1.quadNeg])

/-- RESET.LFO (R233). -/
def execResetLfo (sr : F64) (s : State) : Out :=
  if validRate sr then
    perform s do
      let o ← lfoReset s.lfo sr
      pure (s.setLfo o, [])
  else illegal s

/-- SETP.LFO (R234). -/
def execSetpLfo (s : State) : Out :=
  perform s do
    let o ← lfoSet s.lfo s.lfoStg
    pure (s.setLfo o, [])

end Sys2Proof.Machine
end

