-- ==== Sys2Proof/Machine/DelayBuffer.lean ====
section
/-! DEFINITION. The FractionalDelayBuffer (spec/41_delay_buffer.md): its procedures R190 to R196 and the commands
of the FDB unit, R200 to R205. -/

namespace Sys2Proof.Machine

/-- `fdb_create(b, n)` (R190). -/
def fdbCreate (b : Fdb) (n : Nat) : Fdb :=
  { b with len := pow2ceil (max n 1), mask := pow2ceil (max n 1) - 1, w := 0, mem := [], alloc := true }

/-- `fdb_write(b, x)` (R191). -/
def fdbWrite (b : Fdb) (x : F64) : Fdb :=
  { b with mem := Memory.write b.mem b.w x, w := andMask (b.w + 1) b.mask }

/-- `fdb_readI(b, i)` (R192). -/
def fdbReadI (b : Fdb) (i : Int) : F64 := Memory.read b.mem (andMask (b.w - 1 - i) b.mask)

/-- `fdb_readF(b, d)` (R193). -/
def fdbReadF (b : Fdb) (d : F64) : FpM F64 :=
  match delayIndex? d with
  | none => draw
  | some i =>
    if b.interp then do
      let f ← fsub d (F64.ofInt i)
      lerp (fdbReadI b i) (fdbReadI b (i + 1)) f
    else pure (fdbReadI b i)

/-- `fdb_setInterp(b, v)` (R195). -/
def fdbSetInterp (b : Fdb) (v : Bool) : Fdb := { b with interp := v }

/-- `fdb_flush(b)` (R196). -/
def fdbFlush (b : Fdb) : Fdb := { b with mem := [] }

/-! ## Commands of the FDB unit -/

/-- CREATE.FDB (R200). -/
def execCreateFdb (n : Word64) (s : State) : Out :=
  if lengthFits s.cfg.lmaxLog2 (max n.toNat 1) then performed (s.setFdb (fdbCreate s.fdb n.toNat)) []
  else illegal s

/-- WRITE.FDB (R201). -/
def execWriteFdb (x : F64) (s : State) : Out :=
  if s.fdb.alloc then performed (s.setFdb (fdbWrite s.fdb x)) [] else notReady s

/-- READI.FDB (R202): the domain is checked before readiness (30_encoding.md R124). -/
def execReadiFdb (d : Word64) (s : State) : Out :=
  match integerDelay? d with
  | none => illegal s
  | some i => if s.fdb.alloc then performed s [fdbReadI s.fdb i] else notReady s

/-- READF.FDB (R203). -/
def execReadfFdb (d : F64) (s : State) : Out :=
  if s.fdb.alloc then
    perform s do
      let y ← fdbReadF s.fdb d
      pure (s, [y])
  else notReady s

/-- SETI.FDB (R204). -/
def execSetiFdb (v : Bool) (s : State) : Out := performed (s.setFdb (fdbSetInterp s.fdb v)) []

/-- RESET.FDB (R205). -/
def execResetFdb (sr : F64) (s : State) : Out :=
  if validRate sr then performed (if s.fdb.alloc then s.setFdb (fdbFlush s.fdb) else s) [] else illegal s

end Sys2Proof.Machine
end

