-- ==== Sys2Proof/Machine/SimpleDelay.lean ====
section
/-! DEFINITION. The SimpleDelayLine (spec/47_simple_delay.md): its procedures R360 to R369 and the commands of the
SDELAY unit, R370 to R378. -/

namespace Sys2Proof.Machine

/-- `sd_create(d, sr, ms)` (R360). The caller has checked that the buffer fits, so the truncated product is
finite and not negative. -/
def sdCreate (d : SDelay) (sr ms : F64) : FpM SDelay := do
  let spms ← fdiv sr F64.thousand
  let v ← fmul ms spms
  pure { d with bufMs := ms, sr := sr, spms := spms, buf := fdbCreate d.buf (F64.trunc v + 1).toNat }

/-- `needsCreate(d, sr)` (R362). -/
def needsCreate (d : SDelay) (sr : F64) : Bool := !(F64.eq sr d.sr && d.buf.alloc)

/-- `sd_reset(d, sr)` (R361). -/
def sdReset (d : SDelay) (sr : F64) : FpM SDelay :=
  if needsCreate d sr then sdCreate d sr d.bufMs else pure { d with buf := fdbFlush d.buf }

/-- `sd_set(d, r)` (R363). -/
def sdSet (d : SDelay) (r : SDelayRec) : FpM SDelay := do
  let ds ← fmul r.delayTimeMSec d.spms
  pure { d with record := r, delaySamples := ds, buf := fdbSetInterp d.buf r.interpolate }

/-- The bypass test of R364: the latched delay is IEEE-equal to zero. -/
def sdBypass (d : SDelay) : Bool := F64.eq d.delaySamples F64.zero

/-- `sd_write(d, x)` (R369). -/
def sdWrite (d : SDelay) (x : F64) : SDelay := { d with buf := fdbWrite d.buf x }

/-- `sd_proc(d, x)` (R364): the read comes before the write. -/
def sdProc (d : SDelay) (x : F64) : FpM (F64 × SDelay) :=
  if sdBypass d then pure (x, d)
  else do
    let y ← fdbReadF d.buf d.delaySamples
    pure (y, sdWrite d x)

/-- `sd_read(d)` (R366). -/
def sdRead (d : SDelay) : FpM F64 := fdbReadF d.buf d.delaySamples

/-- `sd_readT(d, ms)` (R367). -/
def sdReadT (d : SDelay) (ms : F64) : FpM F64 := do
  let t ← fmul ms d.spms
  fdbReadF d.buf t

/-- `sd_readP(d, pct)` (R368): the division comes first. -/
def sdReadP (d : SDelay) (pct : F64) : FpM F64 := do
  let f ← fdiv pct F64.hundred
  let t ← fmul f d.delaySamples
  fdbReadF d.buf t

/-! ## Commands of the SDELAY unit -/

/-- CREATE.SDELAY (R370). -/
def execCreateSdelay (sr ms : F64) (s : State) : Out :=
  if validRate sr && fits s.cfg.lmaxLog2 sr ms then
    perform s do
      let d ← sdCreate s.sdelay sr ms
      pure (s.setSdelay d, [])
  else illegal s

/-- RESET.SDELAY (R371). -/
def execResetSdelay (sr : F64) (s : State) : Out :=
  if validRate sr && (!needsCreate s.sdelay sr || fits s.cfg.lmaxLog2 sr s.sdelay.bufMs) then
    perform s do
      let d ← sdReset s.sdelay sr
      pure (s.setSdelay d, [])
  else illegal s

/-- SETP.SDELAY (R372). -/
def execSetpSdelay (s : State) : Out :=
  perform s do
    let d ← sdSet s.sdelay s.sdelayStg
    pure (s.setSdelay d, [])

/-- PROC.SDELAY (R373). -/
def execProcSdelay (x : F64) (s : State) : Out :=
  if sdBypass s.sdelay || s.sdelay.buf.alloc then
    perform s do
      let r ← sdProc s.sdelay x
      pure (s.setSdelay r.2, [r.1])
  else notReady s

/-- WRITE.SDELAY (R375). -/
def execWriteSdelay (x : F64) (s : State) : Out :=
  if s.sdelay.buf.alloc then performed (s.setSdelay (sdWrite s.sdelay x)) [] else notReady s

/-- SDREAD.SDELAY (R376). -/
def execSdreadSdelay (s : State) : Out :=
  if s.sdelay.buf.alloc then
    perform s do
      let y ← sdRead s.sdelay
      pure (s, [y])
  else notReady s

/-- SDREADT.SDELAY (R377). -/
def execSdreadtSdelay (ms : F64) (s : State) : Out :=
  if s.sdelay.buf.alloc then
    perform s do
      let y ← sdReadT s.sdelay ms
      pure (s, [y])
  else notReady s

/-- SDREADP.SDELAY (R378). -/
def execSdreadpSdelay (pct : F64) (s : State) : Out :=
  if s.sdelay.buf.alloc then
    perform s do
      let y ← sdReadP s.sdelay pct
      pure (s, [y])
  else notReady s

end Sys2Proof.Machine
end

