-- ==== Sys2Proof/Machine/Allpass.lean ====
section
/-! DEFINITION. The ModulatedAllpass and the NestedAllpass (spec/48_allpass.md): the procedures R400 to R413 and
R420 to R423, and the commands of the APF unit (R430 to R433) and the NAPF unit (R434 to R437). -/

namespace Sys2Proof.Machine

/-! ## ModulatedAllpass procedures -/

/-- `apf_create(a, sr, ms)` (R401). -/
def apfCreate (a : Apf) (sr ms : F64) : FpM Apf := do
  let sd ← sdCreate a.sd sr ms
  pure { a with sd := sd }

/-- `apf_reset(a, sr)` (R402). -/
def apfReset (a : Apf) (sr : F64) : FpM Apf := do
  let lfo ← lfoReset a.lfo sr
  let sd ← sdCreate a.sd sr a.sd.bufMs
  pure { a with lfo := lfo, lpfState := F64.zero, sd := sd }

/-- `apf_set(a, r)` (R403): the oscillator waveform is always TRIANGLE. -/
def apfSet (a : Apf) (r : ApfRec) : FpM Apf := do
  let sd ← sdSet a.sd { a.sd.record with delayTimeMSec := r.delayTimeMSec, interpolate := r.interpolate }
  let lfo ← lfoSet a.lfo { a.lfo.record with waveform := .triangle, frequencyHz := r.lfoRateHz }
  pure { a with record := r, sd := sd, lfo := lfo }

/-- The modulated delay of R411 for the oscillator output `o`. Where the clamped value is a NaN (a NaN depth, or an
infinite one times zero) `clamp01` gives 0.0 or 1.0, and the delay is, up to rounding, `minD` or `maxD` (log 20, DESIGN CHOICE). -/
def modulatedDelay (r : ApfRec) (o : F64) : FpM F64 := do
  let m0 ← fsub r.delayTimeMSec r.lfoMaxModMSec
  let minD ← fmax F64.zero m0
  let d ← fmul r.lfoDepth o
  let b ← bipolarToUnipolar d
  let u ← clamp01 b
  let k ← fsub F64.one u
  let range ← fsub r.delayTimeMSec minD
  let back ← fmul k range
  fsub r.delayTimeMSec back

/-- `apf_tap(a)` (R411). -/
def apfTap (a : Apf) : FpM (F64 × Apf) :=
  if a.record.enableLFO then do
    let r ← lfoRender a.lfo
    let modD ← modulatedDelay a.record r.1.normal
    let y ← sdReadT a.sd modD
    pure (y, { a with lfo := r.2 })
  else do
    let y ← sdRead a.sd
    pure (y, a)

/-- `apf_damp(a, wnD)` (R412). -/
def apfDamp (p : Params) (a : Apf) (wnD : F64) : FpM (F64 × Apf) :=
  if a.record.enableLPF then do
    let k ← fsub F64.one a.record.lpfG
    let x ← fmul wnD k
    let y ← fmul a.record.lpfG a.lpfState
    let v0 ← fadd x y
    let v ← ftzOnepole p v0
    pure (v, { a with lpfState := v })
  else pure (wnD, a)

/-- `wn = x + g*wnD` (R413, R423). -/
def apfWn (g x wnD : F64) : FpM F64 := do
  let m ← fmul g wnD
  fadd x m

/-- `y = FTZ(-g*wn + wnD)` (R413, R423). -/
def apfY (p : Params) (g wn wnD : F64) : FpM F64 := do
  let m ← fmul (F64.neg g) wn
  let y ← fadd m wnD
  ftz p.ftzThreshold y

/-- `apf_core(a, x, wnD)` (R413). -/
def apfCore (p : Params) (a : Apf) (x wnD : F64) : FpM (F64 × Apf) := do
  let wn ← apfWn a.record.apfG x wnD
  let y ← apfY p a.record.apfG wn wnD
  pure (y, { a with sd := sdWrite a.sd wn })

/-- `apf_proc(a, x)` (R410). -/
def apfProc (p : Params) (a : Apf) (x : F64) : FpM (F64 × Apf) :=
  if sdBypass a.sd then pure (x, a)
  else do
    let t ← apfTap a
    let d ← apfDamp p t.2 t.1
    apfCore p d.2 x d.1

/-! ## NestedAllpass procedures -/

/-- `napf_create(n, sr, msOuter, msInner)` (R420). -/
def napfCreate (n : Napf) (sr msOuter msInner : F64) : FpM Napf := do
  let outer ← apfCreate n.outer sr msOuter
  let inner ← apfCreate n.inner sr msInner
  pure { n with outer := outer, inner := inner }

/-- `napf_set(n, r)` (R421): the oscillator fields act on the outer section only. -/
def napfSet (n : Napf) (r : NapfRec) : FpM Napf := do
  let outer ← apfSet n.outer
    { n.outer.record with
      apfG := r.outerG, delayTimeMSec := r.outerDelayMSec, enableLFO := r.enableLFO, lfoDepth := r.lfoDepth
      lfoRateHz := r.lfoRateHz, lfoMaxModMSec := r.lfoMaxModMSec }
  let inner ← apfSet n.inner { n.inner.record with apfG := r.innerG, delayTimeMSec := r.innerDelayMSec }
  pure { record := r, outer := outer, inner := inner }

/-- `napf_reset(n, sr)` (R422). -/
def napfReset (n : Napf) (sr : F64) : FpM Napf := do
  let outer ← apfReset n.outer sr
  let inner ← apfReset n.inner sr
  pure { n with outer := outer, inner := inner }

/-- `napf_proc(n, x)` (R423): the inner section's output is what the outer memory stores. -/
def napfProc (p : Params) (n : Napf) (x : F64) : FpM (F64 × Napf) :=
  if sdBypass n.outer.sd then pure (x, n)
  else do
    let t ← apfTap n.outer
    let wn ← apfWn n.outer.record.apfG x t.1
    let i ← apfProc p n.inner wn
    let y ← apfY p n.outer.record.apfG wn t.1
    pure (y, { n with outer := { t.2 with sd := sdWrite t.2.sd i.1 }, inner := i.2 })

/-! ## Commands of the APF unit -/

/-- CREATE.APF (R430). -/
def execCreateApf (sr ms : F64) (s : State) : Out :=
  if validRate sr && fits s.cfg.lmaxLog2 sr ms then
    perform s do
      let a ← apfCreate s.apf sr ms
      pure (s.setApf a, [])
  else illegal s

/-- RESET.APF (R431). -/
def execResetApf (sr : F64) (s : State) : Out :=
  if validRate sr && fits s.cfg.lmaxLog2 sr s.apf.sd.bufMs then
    perform s do
      let a ← apfReset s.apf sr
      pure (s.setApf a, [])
  else illegal s

/-- SETP.APF (R432). -/
def execSetpApf (s : State) : Out :=
  perform s do
    let a ← apfSet s.apf s.apfStg
    pure (s.setApf a, [])

/-- PROC.APF (R433). -/
def execProcApf (x : F64) (s : State) : Out :=
  if sdBypass s.apf.sd || s.apf.sd.buf.alloc then
    perform s do
      let r ← apfProc s.cfg s.apf x
      pure (s.setApf r.2, [r.1])
  else notReady s

/-! ## Commands of the NAPF unit -/

/-- CREATE.NAPF (R434): both lengths are checked before either memory is created. -/
def execCreateNapf (sr msOuter msInner : F64) (s : State) : Out :=
  if validRate sr && fits s.cfg.lmaxLog2 sr msOuter && fits s.cfg.lmaxLog2 sr msInner then
    perform s do
      let n ← napfCreate s.napf sr msOuter msInner
      pure (s.setNapf n, [])
  else illegal s

/-- RESET.NAPF (R435). -/
def execResetNapf (sr : F64) (s : State) : Out :=
  if validRate sr && fits s.cfg.lmaxLog2 sr s.napf.outer.sd.bufMs
      && fits s.cfg.lmaxLog2 sr s.napf.inner.sd.bufMs then
    perform s do
      let n ← napfReset s.napf sr
      pure (s.setNapf n, [])
  else illegal s

/-- SETP.NAPF (R436). -/
def execSetpNapf (s : State) : Out :=
  perform s do
    let n ← napfSet s.napf s.napfStg
    pure (s.setNapf n, [])

/-- The memories a step of the nested cell would touch exist (R437). -/
def napfReady (n : Napf) : Bool :=
  sdBypass n.outer.sd || (n.outer.sd.buf.alloc && (sdBypass n.inner.sd || n.inner.sd.buf.alloc))

/-- PROC.NAPF (R437). -/
def execProcNapf (x : F64) (s : State) : Out :=
  if napfReady s.napf then
    perform s do
      let r ← napfProc s.cfg s.napf x
      pure (s.setNapf r.2, [r.1])
  else notReady s

end Sys2Proof.Machine
end

