-- ==== Sys2Proof/Machine/OnePole.lean ====
section
/-! DEFINITION. The one-pole damping filter (spec/46_one_pole.md): its procedures R340 to R342 and the commands of
the ONEPOLE unit, R345 to R347. -/

namespace Sys2Proof.Machine

/-- `op_reset(h)` (R340). -/
def opReset (h : OnePole) : OnePole := { h with state := F64.zero }

/-- `op_proc(h, x)` (R341). DESIGN CHOICE (log 24): the equation and its flush decide, where R343 says that `g = 0.0` gives the
input itself for finite input and state. -/
def opProc (p : Params) (h : OnePole) (x : F64) : FpM (F64 × OnePole) := do
  let k ← fsub F64.one h.record.g
  let a ← fmul k x
  let b ← fmul h.record.g h.state
  let y0 ← fadd a b
  let y ← ftzOnepole p y0
  pure (y, { h with state := y })

/-- `op_set(h, r)` (R342). -/
def opSet (h : OnePole) (r : OnePoleRec) : OnePole := { h with record := r }

/-! ## Commands of the ONEPOLE unit -/

/-- RESET.ONEPOLE (R345). -/
def execResetOnepole (sr : F64) (s : State) : Out :=
  if validRate sr then performed (s.setOnepole (opReset s.onepole)) [] else illegal s

/-- SETP.ONEPOLE (R346). -/
def execSetpOnepole (s : State) : Out := performed (s.setOnepole (opSet s.onepole s.onepoleStg)) []

/-- PROC.ONEPOLE (R347). -/
def execProcOnepole (x : F64) (s : State) : Out :=
  perform s do
    let r ← opProc s.cfg s.onepole x
    pure (s.setOnepole r.2, [r.1])

end Sys2Proof.Machine
end

