-- ==== Sys2Proof/Machine/Biquad.lean ====
section
/-! DEFINITION. The RecursiveFilter (spec/43_biquad.md): its procedures R250 to R258 and the commands of the BIQUAD
unit, R262 to R267. `p` is the implementation's parameters, for the flush threshold. -/

namespace Sys2Proof.Machine

/-- `bq_reset(q)` (R251). -/
def bqReset (q : Biquad) : Biquad := { q with s := BqRegs.zero }

/-- `bq_set(q, r)` (R252). -/
def bqSet (q : Biquad) (r : BiquadRec) : Biquad := { q with record := r }

/-- `a1*s[x_z1] + a2*s[x_z2] - b1*s[y_z1] - b2*s[y_z2]` after a first term `t0`, left to right (R253). -/
def directTail (c : Coef) (s : BqRegs) (t0 : F64) : FpM F64 := do
  let t1 ← fmul c.a1 s.xz1
  let u1 ← fadd t0 t1
  let t2 ← fmul c.a2 s.xz2
  let u2 ← fadd u1 t2
  let t3 ← fmul c.b1 s.yz1
  let u3 ← fsub u2 t3
  let t4 ← fmul c.b2 s.yz2
  fsub u3 t4

/-- Step of structure DIRECT (R253). DESIGN CHOICE (log 21): the sign of a zero output is the one the equation gives. R267
says that all-zero coefficients give `+0.0` for finite `x`; by R253, 00_scope.md R15 and 40_common.md R153 the third of
three negative inputs from power-on gives `-0.0`. The other three structures follow their equations in the same way. -/
def stepDirect (p : Params) (c : Coef) (s : BqRegs) (x : F64) : FpM (F64 × BqRegs) := do
  let t0 ← fmul c.a0 x
  let y0 ← directTail c s t0
  let y ← ftz p.ftzThreshold y0
  pure (y, { xz1 := x, xz2 := s.xz1, yz1 := y, yz2 := s.yz1 })

/-- Step of structure CANONICAL (R254). -/
def stepCanonical (p : Params) (c : Coef) (s : BqRegs) (x : F64) : FpM (F64 × BqRegs) := do
  let t1 ← fmul c.b1 s.xz1
  let u1 ← fsub x t1
  let t2 ← fmul c.b2 s.xz2
  let w ← fsub u1 t2
  let v0 ← fmul c.a0 w
  let v1 ← fmul c.a1 s.xz1
  let z1 ← fadd v0 v1
  let v2 ← fmul c.a2 s.xz2
  let y0 ← fadd z1 v2
  let y ← ftz p.ftzThreshold y0
  pure (y, { s with xz1 := w, xz2 := s.xz1 })

/-- Step of structure TRANSPOSE_DIRECT (R255). -/
def stepTransposeDirect (p : Params) (c : Coef) (s : BqRegs) (x : F64) : FpM (F64 × BqRegs) := do
  let w ← fadd x s.yz1
  let v0 ← fmul c.a0 w
  let y0 ← fadd v0 s.xz1
  let y ← ftz p.ftzThreshold y0
  let m1 ← fmul c.b1 w
  let yz1 ← fsub s.yz2 m1
  let yz2 ← fmul (F64.neg c.b2) w
  let m2 ← fmul c.a1 w
  let xz1 ← fadd s.xz2 m2
  let xz2 ← fmul c.a2 w
  pure (y, { xz1 := xz1, xz2 := xz2, yz1 := yz1, yz2 := yz2 })

/-- Step of structure TRANSPOSE_CANONICAL (R256). -/
def stepTransposeCanonical (p : Params) (c : Coef) (s : BqRegs) (x : F64) : FpM (F64 × BqRegs) := do
  let v0 ← fmul c.a0 x
  let y0 ← fadd v0 s.xz1
  let y ← ftz p.ftzThreshold y0
  let m1 ← fmul c.a1 x
  let m2 ← fmul c.b1 y
  let d1 ← fsub m1 m2
  let xz1 ← fadd d1 s.xz2
  let m3 ← fmul c.a2 x
  let m4 ← fmul c.b2 y
  let xz2 ← fsub m3 m4
  pure (y, { s with xz1 := xz1, xz2 := xz2 })

/-- The step of each structure. -/
def bqStep (p : Params) : BqForm → Coef → BqRegs → F64 → FpM (F64 × BqRegs)
  | .direct => stepDirect p
  | .canonical => stepCanonical p
  | .transposeDirect => stepTransposeDirect p
  | .transposeCanonical => stepTransposeCanonical p

/-- `bq_proc(q, x)` (R257). -/
def bqProc (p : Params) (q : Biquad) (x : F64) : FpM (F64 × Biquad) := do
  let r ← bqStep p q.record.algorithm q.coef q.s x
  pure (r.1, { q with s := r.2 })

/-- `bq_storage(q)` (R258). -/
def bqStorage (q : Biquad) : FpM F64 :=
  match q.record.algorithm with
  | .direct => do
    let t1 ← fmul q.coef.a1 q.s.xz1
    let t2 ← fmul q.coef.a2 q.s.xz2
    let u2 ← fadd t1 t2
    let t3 ← fmul q.coef.b1 q.s.yz1
    let u3 ← fsub u2 t3
    let t4 ← fmul q.coef.b2 q.s.yz2
    fsub u3 t4
  | .transposeCanonical => pure q.s.xz1
  | .canonical => pure F64.zero
  | .transposeDirect => pure F64.zero

/-! ## Commands of the BIQUAD unit -/

/-- BQWC.BIQUAD (R262). -/
def execBqwcBiquad (k : BitVec 8) (c : F64) (s : State) : Out :=
  updateOrIllegal s ((Coef.set? s.biquad.coef k c).map fun coef => s.setBiquad { s.biquad with coef := coef })

/-- BQRC.BIQUAD (R263). -/
def execBqrcBiquad (k : BitVec 8) (s : State) : Out := resultOrIllegal s (Coef.get? s.biquad.coef k)

/-- BQGETS.BIQUAD (R264). -/
def execBqgetsBiquad (s : State) : Out :=
  perform s do
    let y ← bqStorage s.biquad
    pure (s, [y])

/-- RESET.BIQUAD (R265). -/
def execResetBiquad (sr : F64) (s : State) : Out :=
  if validRate sr then performed (s.setBiquad (bqReset s.biquad)) [] else illegal s

/-- SETP.BIQUAD (R266). -/
def execSetpBiquad (s : State) : Out := performed (s.setBiquad (bqSet s.biquad s.biquadStg)) []

/-- PROC.BIQUAD (R267): the equations of R253 to R256 decide the sign of a zero output, where R267's corner case says
`+0.0` (log 21, DESIGN CHOICE). -/
def execProcBiquad (x : F64) (s : State) : Out :=
  perform s do
    let r ← bqProc s.cfg s.biquad x
    pure (s.setBiquad r.2, [r.1])

end Sys2Proof.Machine
end

