-- ==== Sys2Proof/Machine/FilterDesigner.lean ====
section
/-! DEFINITION. The FilterDesigner (spec/44_filter_designer.md): its procedures R290 to R297 (the designs
themselves are in Machine/Design.lean) and the commands of the FILTER unit, R301 to R304. -/

namespace Sys2Proof.Machine

/-- `af_reset(f, sr)` (R291). -/
def afReset (f : Filter) (sr : F64) : Filter := { f with sr := sr, bq := bqReset f.bq }

/-- The change test of `af_set` (R296): every field IEEE-equal to the record in use. -/
def sameDesign (r r0 : FilterRec) : Bool :=
  r.algorithm == r0.algorithm && F64.eq r.fc r0.fc && F64.eq r.q r0.q && F64.eq r.boostCutDb r0.boostCutDb

/-- A non-positive Q is stored as 0.707 (R296). -/
def coerceQ (r : FilterRec) : FilterRec := if F64.le r.q F64.zero then { r with q := F64.q0707 } else r

/-- `af_set(f, r)` (R296). -/
def afSet (f : Filter) (r : FilterRec) : FpM Filter :=
  if sameDesign r f.record then pure f
  else do
    let coef ← afDesign (coerceQ r) f.sr
    pure { f with record := coerceQ r, coef := coef, bq := { f.bq with coef := coef } }

/-- `af_proc(f, x)` (R297). DESIGN CHOICE (log 24): the sign of a zero output is the one the equation gives. R304 says that
`x = -0.0` gives `+0.0` at power-on coefficients for finite `y`; for a negative or `-0.0` `y` the equation gives `-0.0`. -/
def afProc (p : Params) (f : Filter) (x : F64) : FpM (F64 × Filter) := do
  let dx ← fmul f.coef.d0 x
  let r ← bqProc p f.bq x
  let cy ← fmul f.coef.c0 r.1
  let y ← fadd dx cy
  pure (y, { f with bq := r.2 })

/-! ## Commands of the FILTER unit -/

/-- FLRC.FILTER (R301). -/
def execFlrcFilter (k : BitVec 8) (s : State) : Out := resultOrIllegal s (Coef.get? s.filter.coef k)

/-- RESET.FILTER (R302). -/
def execResetFilter (sr : F64) (s : State) : Out :=
  if validRate sr then performed (s.setFilter (afReset s.filter sr)) [] else illegal s

/-- SETP.FILTER (R303). -/
def execSetpFilter (s : State) : Out :=
  perform s do
    let f ← afSet s.filter s.filterStg
    pure (s.setFilter f, [])

/-- PROC.FILTER (R304). -/
def execProcFilter (x : F64) (s : State) : Out :=
  perform s do
    let r ← afProc s.cfg s.filter x
    pure (s.setFilter r.2, [r.1])

end Sys2Proof.Machine
end

