-- ==== Sys2Proof/Machine/Shelving.lean ====
section
/-! DEFINITION. The ShelvingEqualizer (spec/45_shelving.md): its procedures R320 to R322 and the commands of the
SHELF unit, R330 to R332. -/

namespace Sys2Proof.Machine

/-- `sh_reset(e, sr)` (R320). -/
def shReset (e : Shelf) (sr : F64) : Shelf := { e with lo := afReset e.lo sr, hi := afReset e.hi sr }

/-- `sh_set(e, r)` (R321): each designer keeps its own algorithm and Q. -/
def shSet (e : Shelf) (r : ShelfRec) : FpM Shelf := do
  let lo ← afSet e.lo { e.lo.record with fc := r.lowFc, boostCutDb := r.lowBoostCutDb }
  let hi ← afSet e.hi { e.hi.record with fc := r.highFc, boostCutDb := r.highBoostCutDb }
  pure { record := r, lo := lo, hi := hi }

/-- `sh_proc(e, x)` (R322). -/
def shProc (p : Params) (e : Shelf) (x : F64) : FpM (F64 × Shelf) := do
  let v ← afProc p e.lo x
  let y ← afProc p e.hi v.1
  pure (y.1, { e with lo := v.2, hi := y.2 })

/-! ## Commands of the SHELF unit -/

/-- RESET.SHELF (R330). -/
def execResetShelf (sr : F64) (s : State) : Out :=
  if validRate sr then performed (s.setShelf (shReset s.shelf sr)) [] else illegal s

/-- SETP.SHELF (R331). -/
def execSetpShelf (s : State) : Out :=
  perform s do
    let e ← shSet s.shelf s.shelfStg
    pure (s.setShelf e, [])

/-- PROC.SHELF (R332). -/
def execProcShelf (x : F64) (s : State) : Out :=
  perform s do
    let r ← shProc s.cfg s.shelf x
    pure (s.setShelf r.2, [r.1])

end Sys2Proof.Machine
end

