-- ==== Sys2Proof/Machine/ReverbTank.lean ====
section
/-! DEFINITION. The ReverbTank (spec/49_reverb_tank.md): the taps R451, the lifecycle R452 to R454, the frame
R460 to R468 and the commands of the TANK unit, R475 to R481. -/

namespace Sys2Proof.Machine

/-! ## Lifecycle -/

/-- One branch delay of `rt_reset` (R452). -/
def branchReset (p : Params) (sr : F64) (d : SDelay) : FpM SDelay := do
  let d ← sdReset d sr
  sdCreate d sr p.branchBufMs

/-- One all-pass cell of `rt_reset` (R452). -/
def cellReset (p : Params) (sr : F64) (n : Napf) : FpM Napf := do
  let n ← napfReset n sr
  napfCreate n sr p.apfBufMs p.apfBufMs

/-- `rt_reset(t, sr)` (R452). -/
def rtReset (p : Params) (t : Tank) (sr : F64) : FpM Tank := do
  let pre ← sdReset t.pre sr
  let pre ← sdCreate pre sr p.preBufMs
  let bd0 ← branchReset p sr t.bd.b0
  let n0 ← cellReset p sr t.napf.b0
  let bd1 ← branchReset p sr t.bd.b1
  let n1 ← cellReset p sr t.napf.b1
  let bd2 ← branchReset p sr t.bd.b2
  let n2 ← cellReset p sr t.napf.b2
  let bd3 ← branchReset p sr t.bd.b3
  let n3 ← cellReset p sr t.napf.b3
  pure { t with
    sr := sr, pre := pre, bd := ⟨bd0, bd1, bd2, bd3⟩, napf := ⟨n0, n1, n2, n3⟩
    lpf := ⟨opReset t.lpf.b0, opReset t.lpf.b1, opReset t.lpf.b2, opReset t.lpf.b3⟩
    shelfL := shReset t.shelfL sr, shelfR := shReset t.shelfR sr }

/-- `rt_fits(sr)` (R453): every memory `rt_reset` creates fits; the three configured lengths are equal by
default (log 12). -/
def rtFits (p : Params) (sr : F64) : Bool :=
  fits p.lmaxLog2 sr p.preBufMs && fits p.lmaxLog2 sr p.branchBufMs && fits p.lmaxLog2 sr p.apfBufMs

/-- The all-pass cell record of a branch in `rt_set` (R454): weights `w`, oscillator rate `rate`. -/
def cellRec (p : Params) (gA : F64) (w : F64 × F64) (rate : F64) : FpM NapfRec := do
  let o ← fmul gA w.1
  let i ← fmul gA w.2
  pure { outerDelayMSec := o, innerDelayMSec := i, outerG := p.outerG, innerG := p.innerG, enableLFO := true
         lfoRateHz := rate, lfoDepth := p.lfoDepth, lfoMaxModMSec := p.lfoMaxModMs }

/-- One branch of `rt_set` (R454). -/
def branchSet (p : Params) (gA gF : F64) (w : F64 × F64) (rate fw : F64) (n : Napf) (d : SDelay) :
    FpM (Napf × SDelay) := do
  let r ← cellRec p gA w rate
  let n ← napfSet n r
  let t ← fmul gF fw
  let d ← sdSet d { d.record with delayTimeMSec := t, interpolate := false }
  pure (n, d)

/-- The equalizer record of `rt_set` (R454). -/
def tankShelfRec (r : TankRec) : ShelfRec :=
  { lowFc := r.lowShelfFc, lowBoostCutDb := r.lowShelfBoostCutDb
    highFc := r.highShelfFc, highBoostCutDb := r.highShelfBoostCutDb }

/-- `rt_set(t, p)` (R454), with `r` the new record. -/
def rtSet (p : Params) (t : Tank) (r : TankRec) : FpM Tank := do
  let shelfL ← shSet t.shelfL (tankShelfRec r)
  let shelfR ← shSet t.shelfR (tankShelfRec r)
  let pre ← sdSet t.pre { t.pre.record with delayTimeMSec := r.preDelayTimeMSec }
  let wA ← fdiv r.apfDelayWeightPct F64.hundred
  let gA ← fmul wA r.apfDelayMaxMSec
  let wF ← fdiv r.fixedDelayWeightPct F64.hundred
  let gF ← fmul wF r.fixedDelayMaxMSec
  let x0 ← branchSet p gA gF p.apfW.b0 p.lfoRate.b0 p.fixW.b0 t.napf.b0 t.bd.b0
  let x1 ← branchSet p gA gF p.apfW.b1 p.lfoRate.b1 p.fixW.b1 t.napf.b1 t.bd.b1
  let x2 ← branchSet p gA gF p.apfW.b2 p.lfoRate.b2 p.fixW.b2 t.napf.b2 t.bd.b2
  let x3 ← branchSet p gA gF p.apfW.b3 p.lfoRate.b3 p.fixW.b3 t.napf.b3 t.bd.b3
  pure { t with
    record := r, shelfL := shelfL, shelfR := shelfR, pre := pre
    lpf := ⟨opSet t.lpf.b0 ⟨r.lpfG⟩, opSet t.lpf.b1 ⟨r.lpfG⟩, opSet t.lpf.b2 ⟨r.lpfG⟩, opSet t.lpf.b3 ⟨r.lpfG⟩⟩
    napf := ⟨x0.1, x1.1, x2.1, x3.1⟩, bd := ⟨x0.2, x1.2, x2.2, x3.2⟩ }

/-! ## The frame -/

/-- One output tap (R451): the branch, the percentage and the sign. -/
structure Tap where
  branch : Fin 4
  pct : F64
  plus : Bool
deriving DecidableEq, Repr

/-- Four taps, branches 0 to 3, with alternating signs (R451). -/
def tapRow (plus : Bool) (p0 p1 p2 p3 : F64) : List Tap :=
  [⟨0, p0, plus⟩, ⟨1, p1, !plus⟩, ⟨2, p2, plus⟩, ⟨3, p3, !plus⟩]

/-- The left taps in accumulation order: 23, 41, 59, 73, and for THICK 31, 47, 67, 83 percent (R451, R464). DESIGN
CHOICE (log 25): 4 taps and with THICK 8, as R451's table has them, where 70_reset_and_hazards.md R571 counts 8 and 16 per
channel. -/
def leftTaps (p : Params) (d : Density) : List Tap :=
  tapRow p.leftStartsPlus 0x4037000000000000#64 0x4044800000000000#64 0x404D800000000000#64 0x4052400000000000#64 ++
  match d with
  | .sparse => []
  | .thick =>
    tapRow p.leftStartsPlus 0x403F000000000000#64 0x4047800000000000#64 0x4050C00000000000#64 0x4054C00000000000#64

/-- The right taps in accumulation order: 29, 43, 61, 79, and for THICK 37, 53, 71, 89 percent (R451, R464). DESIGN
CHOICE (log 25): 4 taps and with THICK 8, as for the left. -/
def rightTaps (p : Params) (d : Density) : List Tap :=
  tapRow p.rightStartsPlus 0x403D000000000000#64 0x4045800000000000#64 0x404E800000000000#64 0x4053C00000000000#64 ++
  match d with
  | .sparse => []
  | .thick =>
    tapRow p.rightStartsPlus 0x4042800000000000#64 0x404A800000000000#64 0x4051C00000000000#64 0x4056400000000000#64

/-- Add or subtract one weighted tap (R463). -/
def tapAcc (plus : Bool) (acc m : F64) : FpM F64 := if plus then fadd acc m else fsub acc m

/-- The accumulation of the taps over the branch delays `bd`, from `acc` (R460, R463). -/
def tapSum (p : Params) (bd : Quad SDelay) (acc : F64) : List Tap → FpM F64
  | [] => pure acc
  | t :: ts => do
    let v ← sdReadP (bd.get t.branch) t.pct
    let m ← fmul p.tapW v
    let acc' ← tapAcc t.plus acc m
    tapSum p bd acc' ts

/-- What one branch leaves: its scaled delay output plus the pre-delay output, and its units. -/
structure BranchOut where
  next : F64
  napf : Napf
  lpf : OnePole
  bd : SDelay
deriving DecidableEq, Repr

/-- One branch of the frame (R460, R462): all-pass cell, damping, delay line, then the scaling by kRT. -/
def rtBranch (p : Params) (kRT pre input : F64) (n : Napf) (h : OnePole) (d : SDelay) : FpM BranchOut := do
  let a ← napfProc p n input
  let l ← opProc p h a.1
  let o ← sdProc d l.1
  let dOut ← fmul kRT o.1
  let next ← fadd dOut pre
  pure { next := next, napf := a.2, lpf := l.2, bd := o.2 }

/-- The tank's graph of one frame up to the equalizers (R460 to R466): from the f64 input samples and the
channel count to `tankL`, `tankR` and the new tank. -/
def rtGraph (p : Params) (t : Tank) (inCh : Nat) (xL xR : F64) : FpM (F64 × F64 × Tank) := do
  let last ← sdRead t.bd.b3
  let fb ← fmul t.record.kRT last
  let mL ← fdiv xL (F64.ofInt inCh)
  let mR ← fdiv xR (F64.ofInt inCh)
  let mono ← fadd mL mR
  let pre ← sdProc t.pre mono
  let input ← fadd pre.1 fb
  let x0 ← rtBranch p t.record.kRT pre.1 input t.napf.b0 t.lpf.b0 t.bd.b0
  let x1 ← rtBranch p t.record.kRT pre.1 x0.next t.napf.b1 t.lpf.b1 t.bd.b1
  let x2 ← rtBranch p t.record.kRT pre.1 x1.next t.napf.b2 t.lpf.b2 t.bd.b2
  let x3 ← rtBranch p t.record.kRT pre.1 x2.next t.napf.b3 t.lpf.b3 t.bd.b3
  let bd : Quad SDelay := ⟨x0.bd, x1.bd, x2.bd, x3.bd⟩
  let outL ← tapSum p bd F64.zero (leftTaps p t.record.density)
  let outR ← tapSum p bd F64.zero (rightTaps p t.record.density)
  let l ← shProc p t.shelfL outL
  let r ← shProc p t.shelfR outR
  pure (l.1, r.1,
    { t with
      pre := pre.2, bd := bd, napf := ⟨x0.napf, x1.napf, x2.napf, x3.napf⟩, lpf := ⟨x0.lpf, x1.lpf, x2.lpf, x3.lpf⟩
      shelfL := l.2, shelfR := r.2 })

/-- The mono mix `dry*xL + (wet*0.5)*(tankL + tankR)` (R467). -/
def mixMono (dry wet xL tankL tankR : F64) : FpM F64 := do
  let a ← fmul dry xL
  let w ← fmul wet F64.half
  let s ← fadd tankL tankR
  let b ← fmul w s
  fadd a b

/-- One channel of the stereo mix, `dry*x + wet*tank` (R467). -/
def mixChannel (dry wet x tank : F64) : FpM F64 := do
  let a ← fmul dry x
  let b ← fmul wet tank
  fadd a b

/-- `xR` of a frame: the second input sample, `0.0` of a one-channel input (R460). -/
def rightSample (inCh : Nat) (i1 : F32) : FpM F64 := if inCh = 2 then widen i1 else pure F64.zero

/-- `rt_frame(t, inCh, outCh, in)` (R460) with `in` the samples `i0` and, for two channels, `i1`; `outCh` is
1 or 2. -/
def rtFrame (p : Params) (t : Tank) (inCh outCh : Nat) (i0 i1 : F32) : FpM (List F32 × Tank) := do
  let xL ← widen i0
  let xR ← rightSample inCh i1
  let g ← rtGraph p t inCh xL xR
  let dry ← dbToGain t.record.dryLevelDb
  let wet ← dbToGain t.record.wetLevelDb
  if outCh = 1 then do
    let m ← mixMono dry wet xL g.1 g.2.1
    let o ← narrow m
    pure ([o], g.2.2)
  else do
    let l ← mixChannel dry wet xL g.1
    let oL ← narrow l
    let r ← mixChannel dry wet xR g.2.1
    let oR ← narrow r
    pure ([oL, oR], g.2.2)

/-! ## Commands of the TANK unit -/

/-- The tank's 13 delay buffers (10_state.md R54). -/
def tankBuffers (t : Tank) : List Fdb :=
  t.pre.buf :: (t.bd.toList.map (fun d => d.buf) ++
    (t.napf.toList.map (fun n => n.outer.sd.buf) ++ t.napf.toList.map (fun n => n.inner.sd.buf)))

/-- Every memory of the tank exists (60_exceptions.md R503). -/
def tankReady (t : Tank) : Bool := (tankBuffers t).all fun b => b.alloc

/-- RESET.TANK (R475). -/
def execResetTank (sr : F64) (s : State) : Out :=
  if validRate sr && rtFits s.cfg sr then
    perform s do
      let t ← rtReset s.cfg s.tank sr
      pure (s.setTank t, [])
  else illegal s

/-- SETP.TANK (R476). -/
def execSetpTank (s : State) : Out :=
  perform s do
    let t ← rtSet s.cfg s.tank s.tankStg
    pure (s.setTank t, [])

/-- FRAME.TANK (R480): the form, then the f32 words, then readiness (30_encoding.md R124). -/
def execFrameTank (sel : BitVec 8) (ops : List Word64) (s : State) : Out :=
  match frameForm? sel ops.length with
  | none => illegal s
  | some (inCh, outCh) =>
    if ops.all isF32Word then
      if tankReady s.tank then
        perform s do
          let r ← rtFrame s.cfg s.tank inCh outCh (f32Of (ops.getD 0 0#64)) (f32Of (ops.getD 1 0#64))
          pure (s.setTank r.2, r.1.map f32Word)
      else notReady s
    else illegal s

/-- PROC.TANK (R481): a one-in, one-out frame on `f32(x)`, its output widened. -/
def execProcTank (x : F64) (s : State) : Out :=
  if tankReady s.tank then
    perform s do
      let i ← narrow x
      let r ← rtFrame s.cfg s.tank 1 1 i 0#32
      let y ← widen (r.1.headD 0#32)
      pure (s.setTank r.2, [y])
  else notReady s

end Sys2Proof.Machine
end

