-- ==== Sys2Proof/Machine/Dispatch.lean ====
section
/-! DEFINITION. The meaning of every command, one arm per constructor of `Instr`. -/

namespace Sys2Proof.Machine

/-- What the block does with a command: always a response and a next state (60_exceptions.md R500). -/
def exec (i : Instr) (s : State) : Host.Outcome State Fault Refusal :=
  match i with
  | .resetTank sr => Sys2Proof.Machine.execResetTank sr s
  | .resetBiquad sr => Sys2Proof.Machine.execResetBiquad sr s
  | .resetFdb sr => Sys2Proof.Machine.execResetFdb sr s
  | .resetLfo sr => Sys2Proof.Machine.execResetLfo sr s
  | .resetOnepole sr => Sys2Proof.Machine.execResetOnepole sr s
  | .resetSdelay sr => Sys2Proof.Machine.execResetSdelay sr s
  | .resetApf sr => Sys2Proof.Machine.execResetApf sr s
  | .resetNapf sr => Sys2Proof.Machine.execResetNapf sr s
  | .resetFilter sr => Sys2Proof.Machine.execResetFilter sr s
  | .resetShelf sr => Sys2Proof.Machine.execResetShelf sr s
  | .ploadTank => Sys2Proof.Machine.execPloadTank s
  | .ploadBiquad => Sys2Proof.Machine.execPloadBiquad s
  | .ploadLfo => Sys2Proof.Machine.execPloadLfo s
  | .ploadOnepole => Sys2Proof.Machine.execPloadOnepole s
  | .ploadSdelay => Sys2Proof.Machine.execPloadSdelay s
  | .ploadApf => Sys2Proof.Machine.execPloadApf s
  | .ploadNapf => Sys2Proof.Machine.execPloadNapf s
  | .ploadFilter => Sys2Proof.Machine.execPloadFilter s
  | .ploadShelf => Sys2Proof.Machine.execPloadShelf s
  | .pstageTank sel value => Sys2Proof.Machine.execPstageTank sel value s
  | .pstageBiquad sel value => Sys2Proof.Machine.execPstageBiquad sel value s
  | .pstageLfo sel value => Sys2Proof.Machine.execPstageLfo sel value s
  | .pstageOnepole sel value => Sys2Proof.Machine.execPstageOnepole sel value s
  | .pstageSdelay sel value => Sys2Proof.Machine.execPstageSdelay sel value s
  | .pstageApf sel value => Sys2Proof.Machine.execPstageApf sel value s
  | .pstageNapf sel value => Sys2Proof.Machine.execPstageNapf sel value s
  | .pstageFilter sel value => Sys2Proof.Machine.execPstageFilter sel value s
  | .pstageShelf sel value => Sys2Proof.Machine.execPstageShelf sel value s
  | .setpTank => Sys2Proof.Machine.execSetpTank s
  | .setpBiquad => Sys2Proof.Machine.execSetpBiquad s
  | .setpLfo => Sys2Proof.Machine.execSetpLfo s
  | .setpOnepole => Sys2Proof.Machine.execSetpOnepole s
  | .setpSdelay => Sys2Proof.Machine.execSetpSdelay s
  | .setpApf => Sys2Proof.Machine.execSetpApf s
  | .setpNapf => Sys2Proof.Machine.execSetpNapf s
  | .setpFilter => Sys2Proof.Machine.execSetpFilter s
  | .setpShelf => Sys2Proof.Machine.execSetpShelf s
  | .getpTank sel => Sys2Proof.Machine.execGetpTank sel s
  | .getpBiquad sel => Sys2Proof.Machine.execGetpBiquad sel s
  | .getpFdb sel => Sys2Proof.Machine.execGetpFdb sel s
  | .getpLfo sel => Sys2Proof.Machine.execGetpLfo sel s
  | .getpOnepole sel => Sys2Proof.Machine.execGetpOnepole sel s
  | .getpSdelay sel => Sys2Proof.Machine.execGetpSdelay sel s
  | .getpApf sel => Sys2Proof.Machine.execGetpApf sel s
  | .getpNapf sel => Sys2Proof.Machine.execGetpNapf sel s
  | .getpFilter sel => Sys2Proof.Machine.execGetpFilter sel s
  | .getpShelf sel => Sys2Proof.Machine.execGetpShelf sel s
  | .procTank x => Sys2Proof.Machine.execProcTank x s
  | .procBiquad x => Sys2Proof.Machine.execProcBiquad x s
  | .procOnepole x => Sys2Proof.Machine.execProcOnepole x s
  | .procSdelay x => Sys2Proof.Machine.execProcSdelay x s
  | .procApf x => Sys2Proof.Machine.execProcApf x s
  | .procNapf x => Sys2Proof.Machine.execProcNapf x s
  | .procFilter x => Sys2Proof.Machine.execProcFilter x s
  | .procShelf x => Sys2Proof.Machine.execProcShelf x s
  | .frameTank sel ops => Sys2Proof.Machine.execFrameTank sel ops s
  | .frameBiquad sel ops => Sys2Proof.Machine.execFrameBiquad sel ops s
  | .frameFdb sel ops => Sys2Proof.Machine.execFrameFdb sel ops s
  | .frameLfo sel ops => Sys2Proof.Machine.execFrameLfo sel ops s
  | .frameOnepole sel ops => Sys2Proof.Machine.execFrameOnepole sel ops s
  | .frameSdelay sel ops => Sys2Proof.Machine.execFrameSdelay sel ops s
  | .frameApf sel ops => Sys2Proof.Machine.execFrameApf sel ops s
  | .frameNapf sel ops => Sys2Proof.Machine.execFrameNapf sel ops s
  | .frameFilter sel ops => Sys2Proof.Machine.execFrameFilter sel ops s
  | .frameShelf sel ops => Sys2Proof.Machine.execFrameShelf sel ops s
  | .canframeTank => Sys2Proof.Machine.execCanframeTank s
  | .canframeBiquad => Sys2Proof.Machine.execCanframeBiquad s
  | .canframeFdb => Sys2Proof.Machine.execCanframeFdb s
  | .canframeLfo => Sys2Proof.Machine.execCanframeLfo s
  | .canframeOnepole => Sys2Proof.Machine.execCanframeOnepole s
  | .canframeSdelay => Sys2Proof.Machine.execCanframeSdelay s
  | .canframeApf => Sys2Proof.Machine.execCanframeApf s
  | .canframeNapf => Sys2Proof.Machine.execCanframeNapf s
  | .canframeFilter => Sys2Proof.Machine.execCanframeFilter s
  | .canframeShelf => Sys2Proof.Machine.execCanframeShelf s
  | .bqwcBiquad k c => Sys2Proof.Machine.execBqwcBiquad k c s
  | .bqrcBiquad k => Sys2Proof.Machine.execBqrcBiquad k s
  | .bqgetsBiquad => Sys2Proof.Machine.execBqgetsBiquad s
  | .flrcFilter k => Sys2Proof.Machine.execFlrcFilter k s
  | .createFdb n => Sys2Proof.Machine.execCreateFdb n s
  | .createSdelay sr ms => Sys2Proof.Machine.execCreateSdelay sr ms s
  | .createApf sr ms => Sys2Proof.Machine.execCreateApf sr ms s
  | .createNapf sr msOuter msInner => Sys2Proof.Machine.execCreateNapf sr msOuter msInner s
  | .writeFdb x => Sys2Proof.Machine.execWriteFdb x s
  | .writeSdelay x => Sys2Proof.Machine.execWriteSdelay x s
  | .readiFdb d => Sys2Proof.Machine.execReadiFdb d s
  | .readfFdb d => Sys2Proof.Machine.execReadfFdb d s
  | .setiFdb v => Sys2Proof.Machine.execSetiFdb v s
  | .sdreadSdelay => Sys2Proof.Machine.execSdreadSdelay s
  | .sdreadtSdelay ms => Sys2Proof.Machine.execSdreadtSdelay ms s
  | .sdreadpSdelay pct => Sys2Proof.Machine.execSdreadpSdelay pct s
  | .renderLfo => Sys2Proof.Machine.execRenderLfo s

end Sys2Proof.Machine
end

