-- ==== Sys2Proof/Machine/Step.lean ====
section
/-! DEFINITION. One step of the block: one transaction (spec/30_encoding.md R110, 00_scope.md R9). -/

namespace Sys2Proof.Machine

/-- Take the first request the host has sent and answer it. While no request is complete the block waits and
holds all state (30_encoding.md R110, 60_exceptions.md R512, R525; log 3). A request that is no command of the
table is refused, its operand words consumed (60_exceptions.md R502). -/
def step (s : State) : Host.Outcome State Fault Refusal :=
  match decode s.rx with
  | none => .next s
  | some (.ok i, rest) => exec i (s.setRx rest)
  | some (.error _, rest) => illegal (s.setRx rest)

/-- The host sends that instruction as the next request (log 1): its bytes stand before any still pending. -/
def State.withFetchWord (s : State) (nbits w : Nat) : State := s.setRx (tableBytes nbits w ++ s.rx)

end Sys2Proof.Machine
end

