-- ==== Sys2Proof/Machine/Pseudo.lean ====
section
/-! DEFINITION. The assembler names of the commands (spec/30_encoding.md R125) and the pseudo-commands SET and BOOT, each
a fixed sequence of commands (R126). They are no instructions: a host sends the requests they expand to. -/

namespace Sys2Proof

/-- The mnemonic of a command (R120, R125). -/
def Instr.mnemonic : Instr → String
  | .resetTank _ => "RESET.TANK"
  | .resetBiquad _ => "RESET.BIQUAD"
  | .resetFdb _ => "RESET.FDB"
  | .resetLfo _ => "RESET.LFO"
  | .resetOnepole _ => "RESET.ONEPOLE"
  | .resetSdelay _ => "RESET.SDELAY"
  | .resetApf _ => "RESET.APF"
  | .resetNapf _ => "RESET.NAPF"
  | .resetFilter _ => "RESET.FILTER"
  | .resetShelf _ => "RESET.SHELF"
  | .ploadTank => "PLOAD.TANK"
  | .ploadBiquad => "PLOAD.BIQUAD"
  | .ploadLfo => "PLOAD.LFO"
  | .ploadOnepole => "PLOAD.ONEPOLE"
  | .ploadSdelay => "PLOAD.SDELAY"
  | .ploadApf => "PLOAD.APF"
  | .ploadNapf => "PLOAD.NAPF"
  | .ploadFilter => "PLOAD.FILTER"
  | .ploadShelf => "PLOAD.SHELF"
  | .pstageTank _ _ => "PSTAGE.TANK"
  | .pstageBiquad _ _ => "PSTAGE.BIQUAD"
  | .pstageLfo _ _ => "PSTAGE.LFO"
  | .pstageOnepole _ _ => "PSTAGE.ONEPOLE"
  | .pstageSdelay _ _ => "PSTAGE.SDELAY"
  | .pstageApf _ _ => "PSTAGE.APF"
  | .pstageNapf _ _ => "PSTAGE.NAPF"
  | .pstageFilter _ _ => "PSTAGE.FILTER"
  | .pstageShelf _ _ => "PSTAGE.SHELF"
  | .setpTank => "SETP.TANK"
  | .setpBiquad => "SETP.BIQUAD"
  | .setpLfo => "SETP.LFO"
  | .setpOnepole => "SETP.ONEPOLE"
  | .setpSdelay => "SETP.SDELAY"
  | .setpApf => "SETP.APF"
  | .setpNapf => "SETP.NAPF"
  | .setpFilter => "SETP.FILTER"
  | .setpShelf => "SETP.SHELF"
  | .getpTank _ => "GETP.TANK"
  | .getpBiquad _ => "GETP.BIQUAD"
  | .getpFdb _ => "GETP.FDB"
  | .getpLfo _ => "GETP.LFO"
  | .getpOnepole _ => "GETP.ONEPOLE"
  | .getpSdelay _ => "GETP.SDELAY"
  | .getpApf _ => "GETP.APF"
  | .getpNapf _ => "GETP.NAPF"
  | .getpFilter _ => "GETP.FILTER"
  | .getpShelf _ => "GETP.SHELF"
  | .procTank _ => "PROC.TANK"
  | .procBiquad _ => "PROC.BIQUAD"
  | .procOnepole _ => "PROC.ONEPOLE"
  | .procSdelay _ => "PROC.SDELAY"
  | .procApf _ => "PROC.APF"
  | .procNapf _ => "PROC.NAPF"
  | .procFilter _ => "PROC.FILTER"
  | .procShelf _ => "PROC.SHELF"
  | .frameTank _ _ => "FRAME.TANK"
  | .frameBiquad _ _ => "FRAME.BIQUAD"
  | .frameFdb _ _ => "FRAME.FDB"
  | .frameLfo _ _ => "FRAME.LFO"
  | .frameOnepole _ _ => "FRAME.ONEPOLE"
  | .frameSdelay _ _ => "FRAME.SDELAY"
  | .frameApf _ _ => "FRAME.APF"
  | .frameNapf _ _ => "FRAME.NAPF"
  | .frameFilter _ _ => "FRAME.FILTER"
  | .frameShelf _ _ => "FRAME.SHELF"
  | .canframeTank => "CANFRAME.TANK"
  | .canframeBiquad => "CANFRAME.BIQUAD"
  | .canframeFdb => "CANFRAME.FDB"
  | .canframeLfo => "CANFRAME.LFO"
  | .canframeOnepole => "CANFRAME.ONEPOLE"
  | .canframeSdelay => "CANFRAME.SDELAY"
  | .canframeApf => "CANFRAME.APF"
  | .canframeNapf => "CANFRAME.NAPF"
  | .canframeFilter => "CANFRAME.FILTER"
  | .canframeShelf => "CANFRAME.SHELF"
  | .bqwcBiquad _ _ => "BQWC.BIQUAD"
  | .bqrcBiquad _ => "BQRC.BIQUAD"
  | .bqgetsBiquad => "BQGETS.BIQUAD"
  | .flrcFilter _ => "FLRC.FILTER"
  | .createFdb _ => "CREATE.FDB"
  | .createSdelay _ _ => "CREATE.SDELAY"
  | .createApf _ _ => "CREATE.APF"
  | .createNapf _ _ _ => "CREATE.NAPF"
  | .writeFdb _ => "WRITE.FDB"
  | .writeSdelay _ => "WRITE.SDELAY"
  | .readiFdb _ => "READI.FDB"
  | .readfFdb _ => "READF.FDB"
  | .setiFdb _ => "SETI.FDB"
  | .sdreadSdelay => "SDREAD.SDELAY"
  | .sdreadtSdelay _ => "SDREADT.SDELAY"
  | .sdreadpSdelay _ => "SDREADP.SDELAY"
  | .renderLfo => "RENDER.LFO"

/-- `SET.UNIT f1=v1, ..., fk=vk`: PLOAD, then the PSTAGEs in order, then SETP (R126). The expansion is the same for every
unit; a part that is no legal pair (all of SET.FDB, FDB having no record) is sent too and answered ILLEGAL. -/
def expandSet (u : UnitId) (fields : List (BitVec 8 × Word64)) : List Request :=
  mkRequest .pload u 0 [] :: (fields.map (fun f => mkRequest .pstage u f.1 [f.2]) ++ [mkRequest .setp u 0 []])

/-- `BOOT.UNIT sr`: RESET, then PLOAD, then SETP (R126), for every unit; of BOOT.FDB the last two are answered
ILLEGAL. -/
def expandBoot (u : UnitId) (sr : F64) : List Request :=
  [mkRequest .reset u 0 [sr], mkRequest .pload u 0 [], mkRequest .setp u 0 []]

/-- The bytes the host sends for a sequence of requests: one after the other, so that each is answered by a step of its own
whatever the ones before it gave (R126: a pseudo-command is not atomic). -/
def requestsBytes (rs : List Request) : List Byte := rs.flatMap Request.bytes

end Sys2Proof
end

