-- ==== Sys2Proof/Safety.lean ====
section
/-! DEFINITION. The terms the statements use: what a well-formed block is (spec/10_state.md R45 to R54), which
unit a command names, how many results it has (30_encoding.md R120), the exact value of a binary64 pattern and
what it is to be correctly rounded (00_scope.md R15), and the step equations of the spec as relations in which
a produced NaN is any NaN (40_common.md R158). Nothing here takes part in a step. -/

namespace Sys2Proof.Machine

/-! ## The block's parts -/

/-- The delay buffers of a nested cell, outer then inner. -/
def Napf.buffers (n : Napf) : List Fdb := [n.outer.sd.buf, n.inner.sd.buf]

/-- The 18 delay memories of the block (20_memory.md R80). -/
def State.buffers (s : State) : List Fdb :=
  s.fdb :: s.sdelay.buf :: s.apf.sd.buf :: (s.napf.buffers ++ tankBuffers s.tank)

/-- Every filter designer of the block (10_state.md R30). -/
def State.filters (s : State) : List Filter :=
  [s.filter, s.shelf.lo, s.shelf.hi, s.tank.shelfL.lo, s.tank.shelfL.hi, s.tank.shelfR.lo, s.tank.shelfR.hi]

/-- Every shelving equalizer of the block. -/
def State.shelves (s : State) : List Shelf := [s.shelf, s.tank.shelfL, s.tank.shelfR]

/-- Every nested all-pass cell of the block. -/
def State.napfs (s : State) : List Napf := s.napf :: s.tank.napf.toList

/-- Every modulated all-pass section of the block. -/
def State.apfs (s : State) : List Apf := s.apf :: s.napfs.flatMap fun n => [n.outer, n.inner]

/-- Every simple delay line of the tank (49_reverb_tank.md R454). -/
def Tank.lines (t : Tank) : List SDelay := t.pre :: t.bd.toList

/-! ## Well-formed state -/

/-- A delay buffer as 10_state.md R45 describes it: the length a power of two up to the limit, `mask = L - 1`,
the cursor inside, the memory in canonical form. -/
structure Fdb.Ok (lmaxLog2 : Nat) (b : Fdb) : Prop where
  length : ∃ k, k ≤ lmaxLog2 ∧ b.len = 2 ^ k
  mask : b.mask = b.len - 1
  cursor : b.w < b.len
  memory : Memory.wf b.len b.mem = true

/-- A designer as 10_state.md R52 and 44_filter_designer.md R290, R296, R301 describe it: the biquad fixed to
TRANSPOSE_CANONICAL, its coefficients the designer's own, no non-positive Q stored. -/
structure Filter.Ok (f : Filter) : Prop where
  structureFixed : f.bq.record.algorithm = .transposeCanonical
  coefShared : f.bq.coef = f.coef
  positiveQ : F64.le f.record.q F64.zero = false

/-- The designers' algorithms are fixed (10_state.md R53). -/
structure Shelf.Ok (e : Shelf) : Prop where
  low : e.lo.record.algorithm = .lowShelf
  high : e.hi.record.algorithm = .highShelf

/-- What 48_allpass.md R421 says of the sections of a nested cell: no damping and no interpolation in either,
no oscillator in the inner one. -/
structure Napf.Ok (n : Napf) : Prop where
  outerDamping : n.outer.record.enableLPF = false
  innerDamping : n.inner.record.enableLPF = false
  innerLfo : n.inner.record.enableLFO = false
  outerTruncates : n.outer.record.interpolate = false
  innerTruncates : n.inner.record.interpolate = false

/-- The well-formed states of the block. -/
structure State.Inv (s : State) : Prop where
  buffers : ∀ b ∈ s.buffers, b.Ok s.cfg.lmaxLog2
  filters : ∀ f ∈ s.filters, f.Ok
  shelves : ∀ e ∈ s.shelves, e.Ok
  napfs : ∀ n ∈ s.napfs, n.Ok
  /-- The oscillator of every all-pass section runs TRIANGLE (48_allpass.md R403). -/
  waveforms : ∀ a ∈ s.apfs, a.lfo.record.waveform = .triangle
  /-- The tank's delay lines truncate (49_reverb_tank.md R454). -/
  tankLines : ∀ d ∈ s.tank.lines, d.record.interpolate = false

end Sys2Proof.Machine

namespace Sys2Proof

/-! ## What a command names -/

/-- The unit a command names (30_encoding.md R112). -/
def Instr.unit : Instr → UnitId
  | .resetTank _ => .tank
  | .resetBiquad _ => .biquad
  | .resetFdb _ => .fdb
  | .resetLfo _ => .lfo
  | .resetOnepole _ => .onepole
  | .resetSdelay _ => .sdelay
  | .resetApf _ => .apf
  | .resetNapf _ => .napf
  | .resetFilter _ => .filter
  | .resetShelf _ => .shelf
  | .ploadTank => .tank
  | .ploadBiquad => .biquad
  | .ploadLfo => .lfo
  | .ploadOnepole => .onepole
  | .ploadSdelay => .sdelay
  | .ploadApf => .apf
  | .ploadNapf => .napf
  | .ploadFilter => .filter
  | .ploadShelf => .shelf
  | .pstageTank _ _ => .tank
  | .pstageBiquad _ _ => .biquad
  | .pstageLfo _ _ => .lfo
  | .pstageOnepole _ _ => .onepole
  | .pstageSdelay _ _ => .sdelay
  | .pstageApf _ _ => .apf
  | .pstageNapf _ _ => .napf
  | .pstageFilter _ _ => .filter
  | .pstageShelf _ _ => .shelf
  | .setpTank => .tank
  | .setpBiquad => .biquad
  | .setpLfo => .lfo
  | .setpOnepole => .onepole
  | .setpSdelay => .sdelay
  | .setpApf => .apf
  | .setpNapf => .napf
  | .setpFilter => .filter
  | .setpShelf => .shelf
  | .getpTank _ => .tank
  | .getpBiquad _ => .biquad
  | .getpFdb _ => .fdb
  | .getpLfo _ => .lfo
  | .getpOnepole _ => .onepole
  | .getpSdelay _ => .sdelay
  | .getpApf _ => .apf
  | .getpNapf _ => .napf
  | .getpFilter _ => .filter
  | .getpShelf _ => .shelf
  | .procTank _ => .tank
  | .procBiquad _ => .biquad
  | .procOnepole _ => .onepole
  | .procSdelay _ => .sdelay
  | .procApf _ => .apf
  | .procNapf _ => .napf
  | .procFilter _ => .filter
  | .procShelf _ => .shelf
  | .frameTank _ _ => .tank
  | .frameBiquad _ _ => .biquad
  | .frameFdb _ _ => .fdb
  | .frameLfo _ _ => .lfo
  | .frameOnepole _ _ => .onepole
  | .frameSdelay _ _ => .sdelay
  | .frameApf _ _ => .apf
  | .frameNapf _ _ => .napf
  | .frameFilter _ _ => .filter
  | .frameShelf _ _ => .shelf
  | .canframeTank => .tank
  | .canframeBiquad => .biquad
  | .canframeFdb => .fdb
  | .canframeLfo => .lfo
  | .canframeOnepole => .onepole
  | .canframeSdelay => .sdelay
  | .canframeApf => .apf
  | .canframeNapf => .napf
  | .canframeFilter => .filter
  | .canframeShelf => .shelf
  | .bqwcBiquad _ _ => .biquad
  | .bqrcBiquad _ => .biquad
  | .bqgetsBiquad => .biquad
  | .flrcFilter _ => .filter
  | .createFdb _ => .fdb
  | .createSdelay _ _ => .sdelay
  | .createApf _ _ => .apf
  | .createNapf _ _ _ => .napf
  | .writeFdb _ => .fdb
  | .writeSdelay _ => .sdelay
  | .readiFdb _ => .fdb
  | .readfFdb _ => .fdb
  | .setiFdb _ => .fdb
  | .sdreadSdelay => .sdelay
  | .sdreadtSdelay _ => .sdelay
  | .sdreadpSdelay _ => .sdelay
  | .renderLfo => .lfo

/-- The result count of a performed command (30_encoding.md R120); OUT for FRAME.TANK. -/
def Instr.nres : Instr → Nat
  | .resetTank _ => 0
  | .resetBiquad _ => 0
  | .resetFdb _ => 0
  | .resetLfo _ => 0
  | .resetOnepole _ => 0
  | .resetSdelay _ => 0
  | .resetApf _ => 0
  | .resetNapf _ => 0
  | .resetFilter _ => 0
  | .resetShelf _ => 0
  | .ploadTank => 0
  | .ploadBiquad => 0
  | .ploadLfo => 0
  | .ploadOnepole => 0
  | .ploadSdelay => 0
  | .ploadApf => 0
  | .ploadNapf => 0
  | .ploadFilter => 0
  | .ploadShelf => 0
  | .pstageTank _ _ => 0
  | .pstageBiquad _ _ => 0
  | .pstageLfo _ _ => 0
  | .pstageOnepole _ _ => 0
  | .pstageSdelay _ _ => 0
  | .pstageApf _ _ => 0
  | .pstageNapf _ _ => 0
  | .pstageFilter _ _ => 0
  | .pstageShelf _ _ => 0
  | .setpTank => 0
  | .setpBiquad => 0
  | .setpLfo => 0
  | .setpOnepole => 0
  | .setpSdelay => 0
  | .setpApf => 0
  | .setpNapf => 0
  | .setpFilter => 0
  | .setpShelf => 0
  | .getpTank _ => 1
  | .getpBiquad _ => 1
  | .getpFdb _ => 1
  | .getpLfo _ => 1
  | .getpOnepole _ => 1
  | .getpSdelay _ => 1
  | .getpApf _ => 1
  | .getpNapf _ => 1
  | .getpFilter _ => 1
  | .getpShelf _ => 1
  | .procTank _ => 1
  | .procBiquad _ => 1
  | .procOnepole _ => 1
  | .procSdelay _ => 1
  | .procApf _ => 1
  | .procNapf _ => 1
  | .procFilter _ => 1
  | .procShelf _ => 1
  | .frameTank sel _ => sel.toNat % 16
  | .frameBiquad _ _ => 0
  | .frameFdb _ _ => 0
  | .frameLfo _ _ => 0
  | .frameOnepole _ _ => 0
  | .frameSdelay _ _ => 0
  | .frameApf _ _ => 0
  | .frameNapf _ _ => 0
  | .frameFilter _ _ => 0
  | .frameShelf _ _ => 0
  | .canframeTank => 1
  | .canframeBiquad => 1
  | .canframeFdb => 1
  | .canframeLfo => 1
  | .canframeOnepole => 1
  | .canframeSdelay => 1
  | .canframeApf => 1
  | .canframeNapf => 1
  | .canframeFilter => 1
  | .canframeShelf => 1
  | .bqwcBiquad _ _ => 0
  | .bqrcBiquad _ => 1
  | .bqgetsBiquad => 1
  | .flrcFilter _ => 1
  | .createFdb _ => 0
  | .createSdelay _ _ => 0
  | .createApf _ _ => 0
  | .createNapf _ _ _ => 0
  | .writeFdb _ => 0
  | .writeSdelay _ => 0
  | .readiFdb _ => 1
  | .readfFdb _ => 1
  | .setiFdb _ => 0
  | .sdreadSdelay => 1
  | .sdreadtSdelay _ => 1
  | .sdreadpSdelay _ => 1
  | .renderLfo => 4

/-- FRAME to a unit other than TANK (40_common.md R174). -/
def Instr.isOtherFrame : Instr → Bool
  | .resetTank _ => false
  | .resetBiquad _ => false
  | .resetFdb _ => false
  | .resetLfo _ => false
  | .resetOnepole _ => false
  | .resetSdelay _ => false
  | .resetApf _ => false
  | .resetNapf _ => false
  | .resetFilter _ => false
  | .resetShelf _ => false
  | .ploadTank => false
  | .ploadBiquad => false
  | .ploadLfo => false
  | .ploadOnepole => false
  | .ploadSdelay => false
  | .ploadApf => false
  | .ploadNapf => false
  | .ploadFilter => false
  | .ploadShelf => false
  | .pstageTank _ _ => false
  | .pstageBiquad _ _ => false
  | .pstageLfo _ _ => false
  | .pstageOnepole _ _ => false
  | .pstageSdelay _ _ => false
  | .pstageApf _ _ => false
  | .pstageNapf _ _ => false
  | .pstageFilter _ _ => false
  | .pstageShelf _ _ => false
  | .setpTank => false
  | .setpBiquad => false
  | .setpLfo => false
  | .setpOnepole => false
  | .setpSdelay => false
  | .setpApf => false
  | .setpNapf => false
  | .setpFilter => false
  | .setpShelf => false
  | .getpTank _ => false
  | .getpBiquad _ => false
  | .getpFdb _ => false
  | .getpLfo _ => false
  | .getpOnepole _ => false
  | .getpSdelay _ => false
  | .getpApf _ => false
  | .getpNapf _ => false
  | .getpFilter _ => false
  | .getpShelf _ => false
  | .procTank _ => false
  | .procBiquad _ => false
  | .procOnepole _ => false
  | .procSdelay _ => false
  | .procApf _ => false
  | .procNapf _ => false
  | .procFilter _ => false
  | .procShelf _ => false
  | .frameTank _ _ => false
  | .frameBiquad _ _ => true
  | .frameFdb _ _ => true
  | .frameLfo _ _ => true
  | .frameOnepole _ _ => true
  | .frameSdelay _ _ => true
  | .frameApf _ _ => true
  | .frameNapf _ _ => true
  | .frameFilter _ _ => true
  | .frameShelf _ _ => true
  | .canframeTank => false
  | .canframeBiquad => false
  | .canframeFdb => false
  | .canframeLfo => false
  | .canframeOnepole => false
  | .canframeSdelay => false
  | .canframeApf => false
  | .canframeNapf => false
  | .canframeFilter => false
  | .canframeShelf => false
  | .bqwcBiquad _ _ => false
  | .bqrcBiquad _ => false
  | .bqgetsBiquad => false
  | .flrcFilter _ => false
  | .createFdb _ => false
  | .createSdelay _ _ => false
  | .createApf _ _ => false
  | .createNapf _ _ _ => false
  | .writeFdb _ => false
  | .writeSdelay _ => false
  | .readiFdb _ => false
  | .readfFdb _ => false
  | .setiFdb _ => false
  | .sdreadSdelay => false
  | .sdreadtSdelay _ => false
  | .sdreadpSdelay _ => false
  | .renderLfo => false

/-- The commands whose rules reach a flush point (40_common.md R154). -/
def Instr.flushes : Instr → Bool
  | .resetTank _ => false
  | .resetBiquad _ => false
  | .resetFdb _ => false
  | .resetLfo _ => false
  | .resetOnepole _ => false
  | .resetSdelay _ => false
  | .resetApf _ => false
  | .resetNapf _ => false
  | .resetFilter _ => false
  | .resetShelf _ => false
  | .ploadTank => false
  | .ploadBiquad => false
  | .ploadLfo => false
  | .ploadOnepole => false
  | .ploadSdelay => false
  | .ploadApf => false
  | .ploadNapf => false
  | .ploadFilter => false
  | .ploadShelf => false
  | .pstageTank _ _ => false
  | .pstageBiquad _ _ => false
  | .pstageLfo _ _ => false
  | .pstageOnepole _ _ => false
  | .pstageSdelay _ _ => false
  | .pstageApf _ _ => false
  | .pstageNapf _ _ => false
  | .pstageFilter _ _ => false
  | .pstageShelf _ _ => false
  | .setpTank => false
  | .setpBiquad => false
  | .setpLfo => false
  | .setpOnepole => false
  | .setpSdelay => false
  | .setpApf => false
  | .setpNapf => false
  | .setpFilter => false
  | .setpShelf => false
  | .getpTank _ => false
  | .getpBiquad _ => false
  | .getpFdb _ => false
  | .getpLfo _ => false
  | .getpOnepole _ => false
  | .getpSdelay _ => false
  | .getpApf _ => false
  | .getpNapf _ => false
  | .getpFilter _ => false
  | .getpShelf _ => false
  | .procTank _ => true
  | .procBiquad _ => true
  | .procOnepole _ => true
  | .procSdelay _ => false
  | .procApf _ => true
  | .procNapf _ => true
  | .procFilter _ => true
  | .procShelf _ => true
  | .frameTank _ _ => true
  | .frameBiquad _ _ => false
  | .frameFdb _ _ => false
  | .frameLfo _ _ => false
  | .frameOnepole _ _ => false
  | .frameSdelay _ _ => false
  | .frameApf _ _ => false
  | .frameNapf _ _ => false
  | .frameFilter _ _ => false
  | .frameShelf _ _ => false
  | .canframeTank => false
  | .canframeBiquad => false
  | .canframeFdb => false
  | .canframeLfo => false
  | .canframeOnepole => false
  | .canframeSdelay => false
  | .canframeApf => false
  | .canframeNapf => false
  | .canframeFilter => false
  | .canframeShelf => false
  | .bqwcBiquad _ _ => false
  | .bqrcBiquad _ => false
  | .bqgetsBiquad => false
  | .flrcFilter _ => false
  | .createFdb _ => false
  | .createSdelay _ _ => false
  | .createApf _ _ => false
  | .createNapf _ _ _ => false
  | .writeFdb _ => false
  | .writeSdelay _ => false
  | .readiFdb _ => false
  | .readfFdb _ => false
  | .setiFdb _ => false
  | .sdreadSdelay => false
  | .sdreadtSdelay _ => false
  | .sdreadpSdelay _ => false
  | .renderLfo => false

/-- SETP, the only command that commits a record (10_state.md R31). -/
def Instr.isSetp : Instr → Bool
  | .resetTank _ => false
  | .resetBiquad _ => false
  | .resetFdb _ => false
  | .resetLfo _ => false
  | .resetOnepole _ => false
  | .resetSdelay _ => false
  | .resetApf _ => false
  | .resetNapf _ => false
  | .resetFilter _ => false
  | .resetShelf _ => false
  | .ploadTank => false
  | .ploadBiquad => false
  | .ploadLfo => false
  | .ploadOnepole => false
  | .ploadSdelay => false
  | .ploadApf => false
  | .ploadNapf => false
  | .ploadFilter => false
  | .ploadShelf => false
  | .pstageTank _ _ => false
  | .pstageBiquad _ _ => false
  | .pstageLfo _ _ => false
  | .pstageOnepole _ _ => false
  | .pstageSdelay _ _ => false
  | .pstageApf _ _ => false
  | .pstageNapf _ _ => false
  | .pstageFilter _ _ => false
  | .pstageShelf _ _ => false
  | .setpTank => true
  | .setpBiquad => true
  | .setpLfo => true
  | .setpOnepole => true
  | .setpSdelay => true
  | .setpApf => true
  | .setpNapf => true
  | .setpFilter => true
  | .setpShelf => true
  | .getpTank _ => false
  | .getpBiquad _ => false
  | .getpFdb _ => false
  | .getpLfo _ => false
  | .getpOnepole _ => false
  | .getpSdelay _ => false
  | .getpApf _ => false
  | .getpNapf _ => false
  | .getpFilter _ => false
  | .getpShelf _ => false
  | .procTank _ => false
  | .procBiquad _ => false
  | .procOnepole _ => false
  | .procSdelay _ => false
  | .procApf _ => false
  | .procNapf _ => false
  | .procFilter _ => false
  | .procShelf _ => false
  | .frameTank _ _ => false
  | .frameBiquad _ _ => false
  | .frameFdb _ _ => false
  | .frameLfo _ _ => false
  | .frameOnepole _ _ => false
  | .frameSdelay _ _ => false
  | .frameApf _ _ => false
  | .frameNapf _ _ => false
  | .frameFilter _ _ => false
  | .frameShelf _ _ => false
  | .canframeTank => false
  | .canframeBiquad => false
  | .canframeFdb => false
  | .canframeLfo => false
  | .canframeOnepole => false
  | .canframeSdelay => false
  | .canframeApf => false
  | .canframeNapf => false
  | .canframeFilter => false
  | .canframeShelf => false
  | .bqwcBiquad _ _ => false
  | .bqrcBiquad _ => false
  | .bqgetsBiquad => false
  | .flrcFilter _ => false
  | .createFdb _ => false
  | .createSdelay _ _ => false
  | .createApf _ _ => false
  | .createNapf _ _ _ => false
  | .writeFdb _ => false
  | .writeSdelay _ => false
  | .readiFdb _ => false
  | .readfFdb _ => false
  | .setiFdb _ => false
  | .sdreadSdelay => false
  | .sdreadtSdelay _ => false
  | .sdreadpSdelay _ => false
  | .renderLfo => false

/-- PLOAD and PSTAGE, the commands that write a staging record (10_state.md R31). -/
def Instr.isStaging : Instr → Bool
  | .resetTank _ => false
  | .resetBiquad _ => false
  | .resetFdb _ => false
  | .resetLfo _ => false
  | .resetOnepole _ => false
  | .resetSdelay _ => false
  | .resetApf _ => false
  | .resetNapf _ => false
  | .resetFilter _ => false
  | .resetShelf _ => false
  | .ploadTank => true
  | .ploadBiquad => true
  | .ploadLfo => true
  | .ploadOnepole => true
  | .ploadSdelay => true
  | .ploadApf => true
  | .ploadNapf => true
  | .ploadFilter => true
  | .ploadShelf => true
  | .pstageTank _ _ => true
  | .pstageBiquad _ _ => true
  | .pstageLfo _ _ => true
  | .pstageOnepole _ _ => true
  | .pstageSdelay _ _ => true
  | .pstageApf _ _ => true
  | .pstageNapf _ _ => true
  | .pstageFilter _ _ => true
  | .pstageShelf _ _ => true
  | .setpTank => false
  | .setpBiquad => false
  | .setpLfo => false
  | .setpOnepole => false
  | .setpSdelay => false
  | .setpApf => false
  | .setpNapf => false
  | .setpFilter => false
  | .setpShelf => false
  | .getpTank _ => false
  | .getpBiquad _ => false
  | .getpFdb _ => false
  | .getpLfo _ => false
  | .getpOnepole _ => false
  | .getpSdelay _ => false
  | .getpApf _ => false
  | .getpNapf _ => false
  | .getpFilter _ => false
  | .getpShelf _ => false
  | .procTank _ => false
  | .procBiquad _ => false
  | .procOnepole _ => false
  | .procSdelay _ => false
  | .procApf _ => false
  | .procNapf _ => false
  | .procFilter _ => false
  | .procShelf _ => false
  | .frameTank _ _ => false
  | .frameBiquad _ _ => false
  | .frameFdb _ _ => false
  | .frameLfo _ _ => false
  | .frameOnepole _ _ => false
  | .frameSdelay _ _ => false
  | .frameApf _ _ => false
  | .frameNapf _ _ => false
  | .frameFilter _ _ => false
  | .frameShelf _ _ => false
  | .canframeTank => false
  | .canframeBiquad => false
  | .canframeFdb => false
  | .canframeLfo => false
  | .canframeOnepole => false
  | .canframeSdelay => false
  | .canframeApf => false
  | .canframeNapf => false
  | .canframeFilter => false
  | .canframeShelf => false
  | .bqwcBiquad _ _ => false
  | .bqrcBiquad _ => false
  | .bqgetsBiquad => false
  | .flrcFilter _ => false
  | .createFdb _ => false
  | .createSdelay _ _ => false
  | .createApf _ _ => false
  | .createNapf _ _ _ => false
  | .writeFdb _ => false
  | .writeSdelay _ => false
  | .readiFdb _ => false
  | .readfFdb _ => false
  | .setiFdb _ => false
  | .sdreadSdelay => false
  | .sdreadtSdelay _ => false
  | .sdreadpSdelay _ => false
  | .renderLfo => false

/-- The read commands of 60_exceptions.md R524, and CANFRAME. -/
def Instr.isRead : Instr → Bool
  | .resetTank _ => false
  | .resetBiquad _ => false
  | .resetFdb _ => false
  | .resetLfo _ => false
  | .resetOnepole _ => false
  | .resetSdelay _ => false
  | .resetApf _ => false
  | .resetNapf _ => false
  | .resetFilter _ => false
  | .resetShelf _ => false
  | .ploadTank => false
  | .ploadBiquad => false
  | .ploadLfo => false
  | .ploadOnepole => false
  | .ploadSdelay => false
  | .ploadApf => false
  | .ploadNapf => false
  | .ploadFilter => false
  | .ploadShelf => false
  | .pstageTank _ _ => false
  | .pstageBiquad _ _ => false
  | .pstageLfo _ _ => false
  | .pstageOnepole _ _ => false
  | .pstageSdelay _ _ => false
  | .pstageApf _ _ => false
  | .pstageNapf _ _ => false
  | .pstageFilter _ _ => false
  | .pstageShelf _ _ => false
  | .setpTank => false
  | .setpBiquad => false
  | .setpLfo => false
  | .setpOnepole => false
  | .setpSdelay => false
  | .setpApf => false
  | .setpNapf => false
  | .setpFilter => false
  | .setpShelf => false
  | .getpTank _ => true
  | .getpBiquad _ => true
  | .getpFdb _ => true
  | .getpLfo _ => true
  | .getpOnepole _ => true
  | .getpSdelay _ => true
  | .getpApf _ => true
  | .getpNapf _ => true
  | .getpFilter _ => true
  | .getpShelf _ => true
  | .procTank _ => false
  | .procBiquad _ => false
  | .procOnepole _ => false
  | .procSdelay _ => false
  | .procApf _ => false
  | .procNapf _ => false
  | .procFilter _ => false
  | .procShelf _ => false
  | .frameTank _ _ => false
  | .frameBiquad _ _ => false
  | .frameFdb _ _ => false
  | .frameLfo _ _ => false
  | .frameOnepole _ _ => false
  | .frameSdelay _ _ => false
  | .frameApf _ _ => false
  | .frameNapf _ _ => false
  | .frameFilter _ _ => false
  | .frameShelf _ _ => false
  | .canframeTank => true
  | .canframeBiquad => true
  | .canframeFdb => true
  | .canframeLfo => true
  | .canframeOnepole => true
  | .canframeSdelay => true
  | .canframeApf => true
  | .canframeNapf => true
  | .canframeFilter => true
  | .canframeShelf => true
  | .bqwcBiquad _ _ => false
  | .bqrcBiquad _ => true
  | .bqgetsBiquad => true
  | .flrcFilter _ => true
  | .createFdb _ => false
  | .createSdelay _ _ => false
  | .createApf _ _ => false
  | .createNapf _ _ _ => false
  | .writeFdb _ => false
  | .writeSdelay _ => false
  | .readiFdb _ => true
  | .readfFdb _ => true
  | .setiFdb _ => false
  | .sdreadSdelay => true
  | .sdreadtSdelay _ => true
  | .sdreadpSdelay _ => true
  | .renderLfo => false

end Sys2Proof

namespace Sys2Proof.Machine

/-! ## What stays the same -/

/-- Unit `u` and its staging record are the same in both states. -/
def sameUnit (u : UnitId) (s t : State) : Prop :=
  match u with
  | .tank => t.tank = s.tank ∧ t.tankStg = s.tankStg
  | .biquad => t.biquad = s.biquad ∧ t.biquadStg = s.biquadStg
  | .fdb => t.fdb = s.fdb
  | .lfo => t.lfo = s.lfo ∧ t.lfoStg = s.lfoStg
  | .onepole => t.onepole = s.onepole ∧ t.onepoleStg = s.onepoleStg
  | .sdelay => t.sdelay = s.sdelay ∧ t.sdelayStg = s.sdelayStg
  | .apf => t.apf = s.apf ∧ t.apfStg = s.apfStg
  | .napf => t.napf = s.napf ∧ t.napfStg = s.napfStg
  | .filter => t.filter = s.filter ∧ t.filterStg = s.filterStg
  | .shelf => t.shelf = s.shelf ∧ t.shelfStg = s.shelfStg

/-- Every addressable unit's committed record is the same in both states. -/
structure SameRecords (s t : State) : Prop where
  tank : t.tank.record = s.tank.record
  biquad : t.biquad.record = s.biquad.record
  lfo : t.lfo.record = s.lfo.record
  onepole : t.onepole.record = s.onepole.record
  sdelay : t.sdelay.record = s.sdelay.record
  apf : t.apf.record = s.apf.record
  napf : t.napf.record = s.napf.record
  filter : t.filter.record = s.filter.record
  shelf : t.shelf.record = s.shelf.record

/-- Every staging record is the same in both states. -/
structure SameStaging (s t : State) : Prop where
  tank : t.tankStg = s.tankStg
  biquad : t.biquadStg = s.biquadStg
  lfo : t.lfoStg = s.lfoStg
  onepole : t.onepoleStg = s.onepoleStg
  sdelay : t.sdelayStg = s.sdelayStg
  apf : t.apfStg = s.apfStg
  napf : t.napfStg = s.napfStg
  filter : t.filterStg = s.filterStg
  shelf : t.shelfStg = s.shelfStg

/-! ## Exact values and rounding -/

/-- The real number a finite pattern stands for (00_scope.md R13). -/
def F64.value (v : F64) : ℚ := (F64.smant v : ℚ) * 2 ^ F64.qexp v

/-- The place of a value that is not a NaN in the order of the comparisons (00_scope.md R16): its real number, or below or
above every one. -/
def F64.place (v : F64) : WithBot (WithTop ℚ) :=
  if F64.isInf v then (if F64.sign v then ⊥ else ((⊤ : WithTop ℚ) : WithBot (WithTop ℚ)))
  else ((F64.value v : WithTop ℚ) : WithBot (WithTop ℚ))

/-- `v` is `x` rounded to binary64, to nearest, ties to even (00_scope.md R15): from `(2^54 - 1) * 2^970` on the
infinity of x's sign; below it a finite value no farther from `x` than any other, even where another is as near;
and the sign of a nonzero `x` is kept. -/
def F64.IsRounding (x : ℚ) (v : F64) : Prop :=
  (x ≠ 0 → F64.sign v = decide (x < 0)) ∧
  if |x| < (2 ^ 54 - 1) * 2 ^ 970 then
    F64.isFinite v = true ∧
    (∀ u : F64, F64.isFinite u = true → |F64.value v - x| ≤ |F64.value u - x|) ∧
    (∀ u : F64, F64.isFinite u = true → F64.value u ≠ F64.value v →
      |F64.value u - x| = |F64.value v - x| → F64.mant v % 2 = 0)
  else v = F64.inf (decide (x < 0))

/-- The significand of a finite binary32 value with its sign. -/
def F32.smant (v : F32) : Int :=
  let m : Nat := if F32.expo v = 0 then F32.frac v else 2 ^ 23 + F32.frac v
  if v.msb then -(m : Int) else m

/-- The real number a finite binary32 pattern stands for (00_scope.md R13). -/
def F32.value (v : F32) : ℚ := (F32.smant v : ℚ) * 2 ^ ((max (F32.expo v) 1 : Nat) - 150 : Int)

/-- Neither infinite nor a NaN. -/
def F32.isFinite (v : F32) : Bool := F32.expo v != 255

/-- `v` is `x` rounded to binary32, to nearest, ties to even, from `(2^25 - 1) * 2^103` on the infinity of x's
sign (00_scope.md R17). -/
def F32.IsRounding (x : ℚ) (v : F32) : Prop :=
  (x ≠ 0 → v.msb = decide (x < 0)) ∧
  if |x| < (2 ^ 25 - 1) * 2 ^ 103 then
    F32.isFinite v = true ∧
    (∀ u : F32, F32.isFinite u = true → |F32.value v - x| ≤ |F32.value u - x|) ∧
    (∀ u : F32, F32.isFinite u = true → F32.value u ≠ F32.value v →
      |F32.value u - x| = |F32.value v - x| → F32.smant v % 2 = 0)
  else F32.isInf v = true

/-! ## The spec's equations as relations

Each relation says what a procedure of the spec may give: one `Gives` per operator, in the order of the rule. `uf` says
whether a flush replaced a nonzero value (40_common.md R153). -/

/-- `v` is a result of the operation: its value, or any NaN where it gives a NaN (40_common.md R158). -/
def Gives (r : Option F64) (v : F64) : Prop :=
  match r with
  | some w => v = w
  | none => F64.isNaN v = true

/-- `v` is `POW(x, y)` (00_scope.md R10). -/
def PowGives (x y v : F64) : Prop :=
  if F64.isZero y then v = F64.one
  else Gives (if F64.isNaN (Config.pow x y) then none else some (Config.pow x y)) v

/-- `v` is `TAN(x)` (00_scope.md R10). -/
def TanGives (x v : F64) : Prop :=
  if F64.isZero x then v = x else Gives (if F64.isNaN (Config.tan x) then none else some (Config.tan x)) v

/-- `v` is `fmin(a, b)` (00_scope.md R17): of operands that compare equal, either. -/
def MinGives (a b v : F64) : Prop :=
  if F64.isNaN a then (if F64.isNaN b then F64.isNaN v = true else v = b)
  else if F64.isNaN b then v = a
  else if F64.lt a b then v = a
  else if F64.lt b a then v = b
  else v = a ∨ v = b

/-- `v` is `fmax(a, b)` (00_scope.md R17): of operands that compare equal, either. -/
def MaxGives (a b v : F64) : Prop :=
  if F64.isNaN a then (if F64.isNaN b then F64.isNaN v = true else v = b)
  else if F64.isNaN b then v = a
  else if F64.lt b a then v = a
  else if F64.lt a b then v = b
  else v = a ∨ v = b

/-- `v` is `clamp01(u)` (40_common.md R156). Of a NaN the rule's text says 0.0 and its formula gives 1.0; either is
allowed (log 20, the model's choice). -/
def ClampGives (u v : F64) : Prop :=
  if F64.isNaN u then v = F64.zero ∨ v = F64.one else ∃ lo, MinGives u F64.one lo ∧ MaxGives lo F64.zero v

/-- FTZ replaces `v` by zero (40_common.md R153). -/
def flushed (thr v : F64) : Bool :=
  (F64.lt F64.zero v && F64.lt v thr) || (F64.lt v F64.zero && F64.lt (F64.neg thr) v)

/-- `FTZ(v)` (40_common.md R153). -/
def flushOf (thr v : F64) : F64 := if flushed thr v then F64.zero else v

/-- The flush of the one-pole recursion: `y` from `y0` (40_common.md R154). -/
def OnePoleFlush (p : Params) (y0 y : F64) (uf : Bool) : Prop :=
  if p.ftzOnepole then y = flushOf p.ftzThreshold y0 ∧ uf = flushed p.ftzThreshold y0 else y = y0 ∧ uf = false

/-- `v` is `lerp(y1, y2, f)` (40_common.md R155). -/
def LerpGives (y1 y2 f v : F64) : Prop :=
  if F64.le F64.one f then v = y2
  else ∃ a g b, Gives (F64.mul? f y2) a ∧ Gives (F64.sub? F64.one f) g ∧ Gives (F64.mul? g y1) b ∧
    Gives (F64.add? a b) v

/-- `v` is `dbToGain(dB)` (40_common.md R159). -/
def GainGives (dB v : F64) : Prop := ∃ x, Gives (F64.div? dB F64.twenty) x ∧ PowGives F64.ten x v

/-! ### Delay buffers and lines -/

/-- `v` is what `fdb_readF(b, d)` returns: any value where `d` is out of domain (41_delay_buffer.md R193,
40_common.md R157). -/
def ReadGives (b : Fdb) (d v : F64) : Prop :=
  match delayIndex? d with
  | none => True
  | some i =>
    if b.interp then ∃ f, Gives (F64.sub? d (F64.ofInt i)) f ∧ LerpGives (fdbReadI b i) (fdbReadI b (i + 1)) f v
    else v = fdbReadI b i

/-- A delay buffer just created with `n` words asked for (41_delay_buffer.md R190), its switch kept. -/
def freshBuffer (interp : Bool) (n : Nat) : Fdb :=
  { alloc := true, len := pow2ceil (max n 1), mask := pow2ceil (max n 1) - 1, w := 0, interp := interp, mem := [] }

/-- `d'` is `d` after `sd_create(d, sr, ms)` (47_simple_delay.md R360). -/
def LineCreated (d : SDelay) (sr ms : F64) (d' : SDelay) : Prop :=
  ∃ n spms, need sr ms = some n ∧ Gives (F64.div? sr F64.thousand) spms ∧
    d' = { d with bufMs := ms, sr := sr, spms := spms, buf := freshBuffer d.buf.interp n }

/-- `d'` is `d` after `sd_set(d, r)` (47_simple_delay.md R363). -/
def LineSet (d : SDelay) (r : SDelayRec) (d' : SDelay) : Prop :=
  ∃ ds, Gives (F64.mul? r.delayTimeMSec d.spms) ds ∧
    d' = { d with record := r, delaySamples := ds, buf := { d.buf with interp := r.interpolate } }

/-- `sd_proc(d, x)` gives `y` and leaves `d'` (47_simple_delay.md R364). -/
def LineStep (d : SDelay) (x y : F64) (d' : SDelay) : Prop :=
  if F64.eq d.delaySamples F64.zero then y = x ∧ d' = d
  else ReadGives d.buf d.delaySamples y ∧ d' = { d with buf := fdbWrite d.buf x }

/-- `v` is `sd_readT(d, ms)` (47_simple_delay.md R367). -/
def ReadTimeGives (d : SDelay) (ms v : F64) : Prop := ∃ t, Gives (F64.mul? ms d.spms) t ∧ ReadGives d.buf t v

/-- `v` is `sd_readP(d, pct)` (47_simple_delay.md R368). -/
def ReadPercentGives (d : SDelay) (pct v : F64) : Prop :=
  ∃ f t, Gives (F64.div? pct F64.hundred) f ∧ Gives (F64.mul? f d.delaySamples) t ∧ ReadGives d.buf t v

/-! ### Oscillator -/

/-- `v` is `wrap(c, s)` (42_lfo.md R222). -/
def WrapGives (c s v : F64) : Prop :=
  if F64.lt F64.zero s && F64.le F64.one c then Gives (F64.sub? c F64.one) v
  else if F64.lt s F64.zero && F64.lt c F64.zero then Gives (F64.add? c F64.one) v
  else v = c

/-- `v` is `parSine(x)` (42_lfo.md R223). -/
def ParSineGives (x v : F64) : Prop :=
  ∃ bx cx cxx y yy d pd, Gives (F64.mul? parB x) bx ∧ Gives (F64.mul? parC x) cx ∧
    Gives (F64.mul? cx (F64.abs x)) cxx ∧ Gives (F64.add? bx cxx) y ∧ Gives (F64.mul? y (F64.abs y)) yy ∧
    Gives (F64.sub? yy y) d ∧ Gives (F64.mul? parP d) pd ∧ Gives (F64.add? pd y) v

/-- `v` is `shape(c, waveform)` (42_lfo.md R223). -/
def ShapeGives (c : F64) (w : Waveform) (v : F64) : Prop :=
  match w with
  | .sine => ∃ c2 cp a, Gives (F64.mul? c F64.two) c2 ∧ Gives (F64.mul? c2 F64.pi) cp ∧ Gives (F64.sub? cp F64.pi) a ∧
      ParSineGives (F64.neg a) v
  | .triangle => ∃ c2 t t2, Gives (F64.mul? F64.two c) c2 ∧ Gives (F64.sub? c2 F64.one) t ∧
      Gives (F64.mul? F64.two (F64.abs t)) t2 ∧ Gives (F64.sub? t2 F64.one) v
  | .saw => ∃ c2, Gives (F64.mul? F64.two c) c2 ∧ Gives (F64.sub? c2 F64.one) v

/-- `lfo_render(o)` gives `normal` and `quadPos` and leaves `o'` (42_lfo.md R225). -/
def RenderGives (o : Lfo) (normal quadPos : F64) (o' : Lfo) : Prop :=
  ∃ p q0 q p', WrapGives o.p o.inc p ∧ Gives (F64.add? p F64.quarter) q0 ∧ WrapGives q0 F64.quarter q ∧
    ShapeGives p o.record.waveform normal ∧ ShapeGives q o.record.waveform quadPos ∧ Gives (F64.add? p o.inc) p' ∧
    o' = { o with p := p', q := q }

/-- `o'` is `o` after `lfo_reset(o, sr)` (42_lfo.md R221). -/
def LfoRestarted (o : Lfo) (sr : F64) (o' : Lfo) : Prop :=
  ∃ inc, Gives (F64.div? o.record.frequencyHz sr) inc ∧ o' = { o with sr := sr, inc := inc, p := F64.zero, q := F64.quarter }

/-- `o'` is `o` after `lfo_set(o, r)` (42_lfo.md R224). -/
def LfoSet (o : Lfo) (r : LfoRec) (o' : Lfo) : Prop :=
  if F64.eq r.frequencyHz o.record.frequencyHz then o' = { o with record := r }
  else ∃ inc, Gives (F64.div? r.frequencyHz o.sr) inc ∧ o' = { o with inc := inc, record := r }

/-! ### Biquad, designer, equalizer, one-pole -/

/-- `y0` is `a0*x + a1*s[x_z1] + a2*s[x_z2] - b1*s[y_z1] - b2*s[y_z2]`, left to right (43_biquad.md R253). -/
def DirectSum (c : Coef) (s : BqRegs) (x y0 : F64) : Prop :=
  ∃ t0 t1 t2 t3 t4 u1 u2 u3, Gives (F64.mul? c.a0 x) t0 ∧ Gives (F64.mul? c.a1 s.xz1) t1 ∧
    Gives (F64.mul? c.a2 s.xz2) t2 ∧ Gives (F64.mul? c.b1 s.yz1) t3 ∧ Gives (F64.mul? c.b2 s.yz2) t4 ∧
    Gives (F64.add? t0 t1) u1 ∧ Gives (F64.add? u1 t2) u2 ∧ Gives (F64.sub? u2 t3) u3 ∧ Gives (F64.sub? u3 t4) y0

/-- `w` and `y0` of the CANONICAL step (43_biquad.md R254). -/
def CanonicalSum (c : Coef) (s : BqRegs) (x w y0 : F64) : Prop :=
  ∃ t1 t2 u1 v0 v1 v2 z1, Gives (F64.mul? c.b1 s.xz1) t1 ∧ Gives (F64.mul? c.b2 s.xz2) t2 ∧
    Gives (F64.sub? x t1) u1 ∧ Gives (F64.sub? u1 t2) w ∧ Gives (F64.mul? c.a0 w) v0 ∧
    Gives (F64.mul? c.a1 s.xz1) v1 ∧ Gives (F64.mul? c.a2 s.xz2) v2 ∧ Gives (F64.add? v0 v1) z1 ∧
    Gives (F64.add? z1 v2) y0

/-- `y0` and the registers of the TRANSPOSE_DIRECT step (43_biquad.md R255). -/
def TransposeDirectSum (c : Coef) (s : BqRegs) (x y0 : F64) (s' : BqRegs) : Prop :=
  ∃ w v0 m1 m2, Gives (F64.add? x s.yz1) w ∧ Gives (F64.mul? c.a0 w) v0 ∧ Gives (F64.add? v0 s.xz1) y0 ∧
    Gives (F64.mul? c.b1 w) m1 ∧ Gives (F64.sub? s.yz2 m1) s'.yz1 ∧ Gives (F64.mul? (F64.neg c.b2) w) s'.yz2 ∧
    Gives (F64.mul? c.a1 w) m2 ∧ Gives (F64.add? s.xz2 m2) s'.xz1 ∧ Gives (F64.mul? c.a2 w) s'.xz2

/-- `y0` and the registers of the TRANSPOSE_CANONICAL step, the updates using the flushed output
(43_biquad.md R256). -/
def TransposeCanonicalSum (thr : F64) (c : Coef) (s : BqRegs) (x y0 : F64) (s' : BqRegs) : Prop :=
  ∃ v0 m1 m2 d1 m3 m4, Gives (F64.mul? c.a0 x) v0 ∧ Gives (F64.add? v0 s.xz1) y0 ∧
    Gives (F64.mul? c.a1 x) m1 ∧ Gives (F64.mul? c.b1 (flushOf thr y0)) m2 ∧ Gives (F64.sub? m1 m2) d1 ∧
    Gives (F64.add? d1 s.xz2) s'.xz1 ∧ Gives (F64.mul? c.a2 x) m3 ∧ Gives (F64.mul? c.b2 (flushOf thr y0)) m4 ∧
    Gives (F64.sub? m3 m4) s'.xz2 ∧ s'.yz1 = s.yz1 ∧ s'.yz2 = s.yz2

/-- The step of structure `form` from the registers `s` on input `x`: its output before the flush and the
registers after it (43_biquad.md R253 to R256). -/
def FormStep (thr : F64) (form : BqForm) (c : Coef) (s : BqRegs) (x y0 : F64) (s' : BqRegs) : Prop :=
  match form with
  | .direct => DirectSum c s x y0 ∧ s' = { xz1 := x, xz2 := s.xz1, yz1 := flushOf thr y0, yz2 := s.yz1 }
  | .canonical => ∃ w, CanonicalSum c s x w y0 ∧ s' = { s with xz1 := w, xz2 := s.xz1 }
  | .transposeDirect => TransposeDirectSum c s x y0 s'
  | .transposeCanonical => TransposeCanonicalSum thr c s x y0 s'

/-- `bq_proc(q, x)` gives `y` and leaves `q'` (43_biquad.md R257). -/
def BiquadStep (thr : F64) (q : Biquad) (x y : F64) (q' : Biquad) (uf : Bool) : Prop :=
  ∃ y0 s', FormStep thr q.record.algorithm q.coef q.s x y0 s' ∧ y = flushOf thr y0 ∧ uf = flushed thr y0 ∧
    q' = { q with s := s' }

/-- `v` is `gamma` of the shelf designs (44_filter_designer.md R292, R293). -/
def GammaGives (beta fc sr v : F64) : Prop :=
  ∃ tp f th h t delta n d, Gives (F64.mul? F64.two F64.pi) tp ∧ Gives (F64.mul? tp fc) f ∧ Gives (F64.div? f sr) th ∧
    Gives (F64.div? th F64.two) h ∧ TanGives h t ∧ Gives (F64.mul? beta t) delta ∧ Gives (F64.sub? F64.one delta) n ∧
    Gives (F64.add? F64.one delta) d ∧ Gives (F64.div? n d) v

/-- `c` is the LOW_SHELF design (44_filter_designer.md R292). -/
def LowShelfGives (fc dB sr : F64) (c : Coef) : Prop :=
  ∃ mu s beta gamma n m, GainGives dB mu ∧ Gives (F64.add? F64.one mu) s ∧ Gives (F64.div? F64.four s) beta ∧
    GammaGives beta fc sr gamma ∧ Gives (F64.sub? F64.one gamma) n ∧ Gives (F64.div? n F64.two) c.a0 ∧
    Gives (F64.sub? F64.one gamma) m ∧ Gives (F64.div? m F64.two) c.a1 ∧ c.a2 = F64.zero ∧ c.b1 = F64.neg gamma ∧
    c.b2 = F64.zero ∧ Gives (F64.sub? mu F64.one) c.c0 ∧ c.d0 = F64.one

/-- `c` is the HIGH_SHELF design (44_filter_designer.md R293). -/
def HighShelfGives (fc dB sr : F64) (c : Coef) : Prop :=
  ∃ mu s beta gamma n, GainGives dB mu ∧ Gives (F64.add? F64.one mu) s ∧ Gives (F64.div? s F64.four) beta ∧
    GammaGives beta fc sr gamma ∧ Gives (F64.add? F64.one gamma) n ∧ Gives (F64.div? n F64.two) c.a0 ∧
    c.a1 = F64.neg c.a0 ∧ c.a2 = F64.zero ∧ c.b1 = F64.neg gamma ∧ c.b2 = F64.zero ∧
    Gives (F64.sub? mu F64.one) c.c0 ∧ c.d0 = F64.one

/-- `c` is `af_design(r, sr)` (44_filter_designer.md R294). -/
def DesignGives (r : FilterRec) (sr : F64) (c : Coef) : Prop :=
  match r.algorithm with
  | .lowShelf => LowShelfGives r.fc r.boostCutDb sr c
  | .highShelf => HighShelfGives r.fc r.boostCutDb sr c

/-- `f'` is `f` after `af_set(f, r)` (44_filter_designer.md R296). -/
def FilterSet (f : Filter) (r : FilterRec) (f' : Filter) : Prop :=
  if r.algorithm = f.record.algorithm ∧ F64.eq r.fc f.record.fc = true ∧ F64.eq r.q f.record.q = true ∧
      F64.eq r.boostCutDb f.record.boostCutDb = true then f' = f
  else ∃ c, DesignGives r f.sr c ∧
    f' = { f with
      record := { r with q := if F64.le r.q F64.zero then F64.q0707 else r.q }
      coef := c
      bq := { f.bq with coef := c } }

/-- `af_proc(f, x)` gives `y` and leaves `f'` (44_filter_designer.md R297). -/
def FilterStep (thr : F64) (f : Filter) (x y : F64) (f' : Filter) (uf : Bool) : Prop :=
  ∃ dx yb q' cy, Gives (F64.mul? f.coef.d0 x) dx ∧ BiquadStep thr f.bq x yb q' uf ∧ Gives (F64.mul? f.coef.c0 yb) cy ∧
    Gives (F64.add? dx cy) y ∧ f' = { f with bq := q' }

/-- `e'` is `e` after `sh_set(e, r)` (45_shelving.md R321). -/
def ShelfSet (e : Shelf) (r : ShelfRec) (e' : Shelf) : Prop :=
  FilterSet e.lo { e.lo.record with fc := r.lowFc, boostCutDb := r.lowBoostCutDb } e'.lo ∧
    FilterSet e.hi { e.hi.record with fc := r.highFc, boostCutDb := r.highBoostCutDb } e'.hi ∧ e'.record = r

/-- `sh_proc(e, x)` gives `y` and leaves `e'` (45_shelving.md R322). -/
def ShelfStep (thr : F64) (e : Shelf) (x y : F64) (e' : Shelf) (uf : Bool) : Prop :=
  ∃ v ul uh, FilterStep thr e.lo x v e'.lo ul ∧ FilterStep thr e.hi v y e'.hi uh ∧ e'.record = e.record ∧ uf = (ul || uh)

/-- `op_proc(h, x)` gives `y` and leaves `h'` (46_one_pole.md R341). -/
def OnePoleStep (p : Params) (h : OnePole) (x y : F64) (h' : OnePole) (uf : Bool) : Prop :=
  ∃ k a b y0, Gives (F64.sub? F64.one h.record.g) k ∧ Gives (F64.mul? k x) a ∧ Gives (F64.mul? h.record.g h.state) b ∧
    Gives (F64.add? a b) y0 ∧ OnePoleFlush p y0 y uf ∧ h' = { h with state := y }

/-! ### All-pass sections -/

/-- `v` is the modulated delay of `apf_tap` for the oscillator output `o` (48_allpass.md R411, 40_common.md
R156). -/
def ModulatedDelayGives (r : ApfRec) (o v : F64) : Prop :=
  ∃ m0 minD d h b u k range back, Gives (F64.sub? r.delayTimeMSec r.lfoMaxModMSec) m0 ∧ MaxGives F64.zero m0 minD ∧
    Gives (F64.mul? r.lfoDepth o) d ∧ Gives (F64.mul? F64.half d) h ∧ Gives (F64.add? h F64.half) b ∧
    ClampGives b u ∧ Gives (F64.sub? F64.one u) k ∧
    Gives (F64.sub? r.delayTimeMSec minD) range ∧ Gives (F64.mul? k range) back ∧
    Gives (F64.sub? r.delayTimeMSec back) v

/-- `apf_tap(a)` gives `v` and leaves the oscillator `o'` (48_allpass.md R411). -/
def TapGives (a : Apf) (v : F64) (o' : Lfo) : Prop :=
  if a.record.enableLFO then ∃ normal quadPos modD, RenderGives a.lfo normal quadPos o' ∧
    ModulatedDelayGives a.record normal modD ∧ ReadTimeGives a.sd modD v
  else ReadGives a.sd.buf a.sd.delaySamples v ∧ o' = a.lfo

/-- `apf_damp(a, w)` gives `v` and leaves the damping state `st'` (48_allpass.md R412). -/
def DampGives (p : Params) (a : Apf) (w v st' : F64) (uf : Bool) : Prop :=
  if a.record.enableLPF then ∃ k x y v0, Gives (F64.sub? F64.one a.record.lpfG) k ∧ Gives (F64.mul? w k) x ∧
    Gives (F64.mul? a.record.lpfG a.lpfState) y ∧ Gives (F64.add? x y) v0 ∧ OnePoleFlush p v0 v uf ∧ st' = v
  else v = w ∧ st' = a.lpfState ∧ uf = false

/-- `wn = x + g*wnD` and `y0 = -g*wn + wnD`, the output before its flush (48_allpass.md R413, R423). -/
def AllpassSum (g x wnD wn y0 : F64) : Prop :=
  ∃ m n, Gives (F64.mul? g wnD) m ∧ Gives (F64.add? x m) wn ∧ Gives (F64.mul? (F64.neg g) wn) n ∧
    Gives (F64.add? n wnD) y0

/-- `apf_proc(a, x)` gives `y` and leaves `a'` (48_allpass.md R410, R413). -/
def ApfStep (p : Params) (a : Apf) (x y : F64) (a' : Apf) (uf : Bool) : Prop :=
  if F64.eq a.sd.delaySamples F64.zero then y = x ∧ a' = a ∧ uf = false
  else ∃ tap o' wnD st' ud wn y0, TapGives a tap o' ∧ DampGives p a tap wnD st' ud ∧
    AllpassSum a.record.apfG x wnD wn y0 ∧ y = flushOf p.ftzThreshold y0 ∧ uf = (ud || flushed p.ftzThreshold y0) ∧
    a' = { a with lfo := o', lpfState := st', sd := { a.sd with buf := fdbWrite a.sd.buf wn } }

/-- `napf_proc(n, x)` gives `y` and leaves `n'` (48_allpass.md R423). -/
def NapfStep (p : Params) (n : Napf) (x y : F64) (n' : Napf) (uf : Bool) : Prop :=
  if F64.eq n.outer.sd.delaySamples F64.zero then y = x ∧ n' = n ∧ uf = false
  else ∃ wnD o' wn y0 yi inner' ui, TapGives n.outer wnD o' ∧ AllpassSum n.outer.record.apfG x wnD wn y0 ∧
    ApfStep p n.inner wn yi inner' ui ∧ y = flushOf p.ftzThreshold y0 ∧ uf = (ui || flushed p.ftzThreshold y0) ∧
    n' = { n with
      outer := { n.outer with lfo := o', sd := { n.outer.sd with buf := fdbWrite n.outer.sd.buf yi } }
      inner := inner' }

/-- `a'` is `a` after `apf_set(a, r)` (48_allpass.md R403). -/
def ApfSet (a : Apf) (r : ApfRec) (a' : Apf) : Prop :=
  LineSet a.sd { delayTimeMSec := r.delayTimeMSec, interpolate := r.interpolate } a'.sd ∧
    LfoSet a.lfo { waveform := .triangle, frequencyHz := r.lfoRateHz } a'.lfo ∧ a'.record = r ∧ a'.lpfState = a.lpfState

/-- `n'` is `n` after `napf_set(n, r)` (48_allpass.md R421). -/
def NapfSet (n : Napf) (r : NapfRec) (n' : Napf) : Prop :=
  ApfSet n.outer
      { n.outer.record with
        delayTimeMSec := r.outerDelayMSec, apfG := r.outerG, enableLFO := r.enableLFO, lfoRateHz := r.lfoRateHz
        lfoDepth := r.lfoDepth, lfoMaxModMSec := r.lfoMaxModMSec } n'.outer ∧
    ApfSet n.inner { n.inner.record with delayTimeMSec := r.innerDelayMSec, apfG := r.innerG } n'.inner ∧ n'.record = r

/-- `a'` is `a` restarted at rate `sr` with a memory of `ms` milliseconds: `apf_reset` for `ms` the length in use
(48_allpass.md R402). -/
def ApfRestarted (a : Apf) (sr ms : F64) (a' : Apf) : Prop :=
  LfoRestarted a.lfo sr a'.lfo ∧ LineCreated a.sd sr ms a'.sd ∧ a'.record = a.record ∧ a'.lpfState = F64.zero

/-- `n'` is `n` with both sections restarted (48_allpass.md R422, 49_reverb_tank.md R452). -/
def NapfRestarted (n : Napf) (sr msOuter msInner : F64) (n' : Napf) : Prop :=
  ApfRestarted n.outer sr msOuter n'.outer ∧ ApfRestarted n.inner sr msInner n'.inner ∧ n'.record = n.record

/-! ### Reverb tank -/

/-- `t'` is `t` after `rt_reset(t, sr)` (49_reverb_tank.md R452). -/
def TankRestarted (p : Params) (t : Tank) (sr : F64) (t' : Tank) : Prop :=
  LineCreated t.pre sr p.preBufMs t'.pre ∧
    (∀ i : Fin 4, LineCreated (t.bd.get i) sr p.branchBufMs (t'.bd.get i) ∧
      NapfRestarted (t.napf.get i) sr p.apfBufMs p.apfBufMs (t'.napf.get i) ∧
      t'.lpf.get i = { t.lpf.get i with state := F64.zero }) ∧
    t'.shelfL = shReset t.shelfL sr ∧ t'.shelfR = shReset t.shelfR sr ∧ t'.record = t.record ∧ t'.sr = sr

/-- `t'` is `t` after `rt_set(t, r)` (49_reverb_tank.md R454): the equalizers, the damping gains, the pre-delay, and
for every branch the nested cell and the delay line, from the two shared times. -/
def TankSet (p : Params) (t : Tank) (r : TankRec) (t' : Tank) : Prop :=
  ShelfSet t.shelfL (tankShelfRec r) t'.shelfL ∧ ShelfSet t.shelfR (tankShelfRec r) t'.shelfR ∧
    LineSet t.pre { t.pre.record with delayTimeMSec := r.preDelayTimeMSec } t'.pre ∧
    (∃ wA gA wF gF, Gives (F64.div? r.apfDelayWeightPct F64.hundred) wA ∧ Gives (F64.mul? wA r.apfDelayMaxMSec) gA ∧
      Gives (F64.div? r.fixedDelayWeightPct F64.hundred) wF ∧ Gives (F64.mul? wF r.fixedDelayMaxMSec) gF ∧
      ∀ i : Fin 4, (t'.lpf.get i = { t.lpf.get i with record := { g := r.lpfG } }) ∧
        (∃ o n, Gives (F64.mul? gA (p.apfW.get i).1) o ∧ Gives (F64.mul? gA (p.apfW.get i).2) n ∧
          NapfSet (t.napf.get i)
            { outerDelayMSec := o, innerDelayMSec := n, outerG := p.outerG, innerG := p.innerG, enableLFO := true
              lfoRateHz := p.lfoRate.get i, lfoDepth := p.lfoDepth, lfoMaxModMSec := p.lfoMaxModMs } (t'.napf.get i)) ∧
        (∃ d, Gives (F64.mul? gF (p.fixW.get i)) d ∧
          LineSet (t.bd.get i) { delayTimeMSec := d, interpolate := false } (t'.bd.get i))) ∧
    t'.record = r ∧ t'.sr = t.sr

/-- One branch of a frame on input `input` with the pre-delay output `pre` (49_reverb_tank.md R460, R462): the next
branch's input and the branch's units after it. -/
def BranchStep (p : Params) (kRT pre input : F64) (n : Napf) (h : OnePole) (d : SDelay) (next : F64) (n' : Napf)
    (h' : OnePole) (d' : SDelay) (uf : Bool) : Prop :=
  ∃ a l o dOut ua ul, NapfStep p n input a n' ua ∧ OnePoleStep p h a l h' ul ∧ LineStep d l o d' ∧
    Gives (F64.mul? kRT o) dOut ∧ Gives (F64.add? dOut pre) next ∧ uf = (ua || ul)

/-- `v` is the accumulation of `taps` from `acc` over the delay lines `bd` (49_reverb_tank.md R460, R463). -/
def TapsGive (p : Params) (bd : Quad SDelay) (acc : F64) (taps : List Tap) (v : F64) : Prop :=
  match taps with
  | [] => v = acc
  | t :: ts => ∃ x m acc', ReadPercentGives (bd.get t.branch) t.pct x ∧ Gives (F64.mul? p.tapW x) m ∧
      Gives (if t.plus then F64.add? acc m else F64.sub? acc m) acc' ∧ TapsGive p bd acc' ts v

/-- The graph of one frame up to the mix (49_reverb_tank.md R460 to R466): the input samples to `tankL` and
`tankR`, and the tank after it. -/
def GraphStep (p : Params) (t : Tank) (inCh : Nat) (xL xR tankL tankR : F64) (t' : Tank) (uf : Bool) : Prop :=
  ∃ last fb mL mR mono pre input i1 i2 i3 i4 outL outR u0 u1 u2 u3 ul ur,
    ReadGives t.bd.b3.buf t.bd.b3.delaySamples last ∧ Gives (F64.mul? t.record.kRT last) fb ∧
    Gives (F64.div? xL (F64.ofInt inCh)) mL ∧ Gives (F64.div? xR (F64.ofInt inCh)) mR ∧ Gives (F64.add? mL mR) mono ∧
    LineStep t.pre mono pre t'.pre ∧ Gives (F64.add? pre fb) input ∧
    BranchStep p t.record.kRT pre input t.napf.b0 t.lpf.b0 t.bd.b0 i1 t'.napf.b0 t'.lpf.b0 t'.bd.b0 u0 ∧
    BranchStep p t.record.kRT pre i1 t.napf.b1 t.lpf.b1 t.bd.b1 i2 t'.napf.b1 t'.lpf.b1 t'.bd.b1 u1 ∧
    BranchStep p t.record.kRT pre i2 t.napf.b2 t.lpf.b2 t.bd.b2 i3 t'.napf.b2 t'.lpf.b2 t'.bd.b2 u2 ∧
    BranchStep p t.record.kRT pre i3 t.napf.b3 t.lpf.b3 t.bd.b3 i4 t'.napf.b3 t'.lpf.b3 t'.bd.b3 u3 ∧
    TapsGive p t'.bd F64.zero (leftTaps p t.record.density) outL ∧
    TapsGive p t'.bd F64.zero (rightTaps p t.record.density) outR ∧
    ShelfStep p.ftzThreshold t.shelfL outL tankL t'.shelfL ul ∧
    ShelfStep p.ftzThreshold t.shelfR outR tankR t'.shelfR ur ∧
    t'.record = t.record ∧ t'.sr = t.sr ∧ uf = (u0 || u1 || u2 || u3 || ul || ur)

/-- A binary32 result: its value, or any NaN (40_common.md R158). -/
def Gives32 (r : Option F32) (v : F32) : Prop :=
  match r with
  | some w => v = w
  | none => F32.isNaN v = true

/-- `o` is `f32(dry*x + wet*tank)` (49_reverb_tank.md R467). -/
def ChannelMix (dry wet x tank : F64) (o : F32) : Prop :=
  ∃ a b y, Gives (F64.mul? dry x) a ∧ Gives (F64.mul? wet tank) b ∧ Gives (F64.add? a b) y ∧ Gives32 (F64.toF32? y) o

/-- `o` is `f32(dry*xL + (wet*0.5)*(tankL + tankR))` (49_reverb_tank.md R467). -/
def MonoMix (dry wet xL tankL tankR : F64) (o : F32) : Prop :=
  ∃ a w s b y, Gives (F64.mul? dry xL) a ∧ Gives (F64.mul? wet F64.half) w ∧ Gives (F64.add? tankL tankR) s ∧
    Gives (F64.mul? w s) b ∧ Gives (F64.add? a b) y ∧ Gives32 (F64.toF32? y) o

/-- `rt_frame` on the samples `i0` and, of a two-channel input, `i1` gives `outs` and leaves `t'`
(49_reverb_tank.md R460, R467, R468). -/
def FrameStep (p : Params) (t : Tank) (inCh outCh : Nat) (i0 i1 : F32) (outs : List F32) (t' : Tank) (uf : Bool) :
    Prop :=
  ∃ xL xR tankL tankR dry wet, Gives (F32.toF64? i0) xL ∧
    (if inCh = 2 then Gives (F32.toF64? i1) xR else xR = F64.zero) ∧
    GraphStep p t inCh xL xR tankL tankR t' uf ∧ GainGives t.record.dryLevelDb dry ∧ GainGives t.record.wetLevelDb wet ∧
    (if outCh = 1 then ∃ o, outs = [o] ∧ MonoMix dry wet xL tankL tankR o
      else ∃ l r, outs = [l, r] ∧ ChannelMix dry wet xL tankL l ∧ ChannelMix dry wet xR tankR r)

/-- The status of a performed command whose underflow indicator is `uf` (60_exceptions.md R501, R504): HANDLED alone,
or HANDLED and UF. -/
def handledStatus (uf : Bool) : Word32 := if uf then 3#32 else 1#32

/-- `v` is `bq_storage(q)` (43_biquad.md R258). -/
def StorageGives (q : Biquad) (v : F64) : Prop :=
  match q.record.algorithm with
  | .direct => ∃ t1 t2 t3 t4 u2 u3, Gives (F64.mul? q.coef.a1 q.s.xz1) t1 ∧ Gives (F64.mul? q.coef.a2 q.s.xz2) t2 ∧
      Gives (F64.mul? q.coef.b1 q.s.yz1) t3 ∧ Gives (F64.mul? q.coef.b2 q.s.yz2) t4 ∧ Gives (F64.add? t1 t2) u2 ∧
      Gives (F64.sub? u2 t3) u3 ∧ Gives (F64.sub? u3 t4) v
  | .transposeCanonical => v = q.s.xz1
  | .canonical => v = F64.zero
  | .transposeDirect => v = F64.zero

/-! ## Reads and writes of numbered fields -/

/-- `o` reads the `fields` by number: field SEL as the one result word, ILLEGAL beyond the last, nothing changed
(40_common.md R172, 30_encoding.md R122). -/
def ReadsFields (s : State) (fields : List Word64) (o : BitVec 8 → Out) : Prop :=
  ∀ sel : BitVec 8,
    (∀ h : sel.toNat < fields.length,
      o sel = .next (s.answer s.draws { status := 1#32, results := [fields[sel.toNat]'h] })) ∧
    (fields.length ≤ sel.toNat → o sel = .next (s.answer s.draws { status := 4#32, results := [] }))

/-- The code counts of the enum and Bool fields of a unit's record, by SEL (10_state.md R33 to R41). -/
def codeCount (u : UnitId) (sel : Nat) : Option Nat :=
  match u with
  | .tank => if sel = 0 then some 2 else none
  | .biquad => if sel = 0 then some 4 else none
  | .fdb => none
  | .lfo => if sel = 0 then some 3 else none
  | .onepole => none
  | .sdelay => if sel = 1 then some 2 else none
  | .apf => if sel = 2 ∨ sel = 4 ∨ sel = 5 then some 2 else none
  | .napf => if sel = 4 then some 2 else none
  | .filter => if sel = 0 then some 2 else none
  | .shelf => none

/-- `o` writes field SEL of the `n` fields that `view` shows of a staging record, `stg` being the record before and `upd`
putting the new one back: the field named becomes the operand and every other stays; beyond the last field, or for
a code at or above the field's code count, ILLEGAL (40_common.md R171, 30_encoding.md R122). -/
def StagesField {α : Type} (s : State) (u : UnitId) (n : Nat) (view : α → BitVec 8 → Option Word64) (stg : α)
    (upd : α → State) (o : BitVec 8 → Word64 → Out) : Prop :=
  ∀ (sel : BitVec 8) (v : Word64),
    (sel.toNat < n → (∀ c, codeCount u sel.toNat = some c → v.toNat < c) →
      ∃ r, o sel v = .next ((upd r).answer s.draws { status := 1#32, results := [] }) ∧
        ∀ k : BitVec 8, k.toNat < n → view r k = if k = sel then some v else view stg k) ∧
    ((n ≤ sel.toNat ∨ ∃ c, codeCount u sel.toNat = some c ∧ c ≤ v.toNat) →
      o sel v = .next (s.answer s.draws { status := 4#32, results := [] }))

/-- A coefficient vector as its slots 0 to 6 (10_state.md R47, 30_encoding.md R113). -/
def Coef.slots (c : Coef) : List Word64 := [c.a0, c.a1, c.a2, c.b1, c.b2, c.c0, c.d0]

/-! ## Runs of a delay line -/

/-- The outputs of a delay line for a run of inputs (47_simple_delay.md R364), and the line after it. -/
def sdRun (d : SDelay) (fx : Fx) : List F64 → List F64 × SDelay
  | [] => ([], d)
  | x :: xs =>
    (((sdProc d x).apply fx).1.1 :: (sdRun ((sdProc d x).apply fx).1.2 ((sdProc d x).apply fx).2 xs).1,
      (sdRun ((sdProc d x).apply fx).1.2 ((sdProc d x).apply fx).2 xs).2)

/-! ## The rows of spec/opcode_table.json, in its order: a command word's fixed bits and their mask
(30_encoding.md R120, R121) -/

/-- A row of the opcode table. -/
structure Row where
  mnemonic : String
  mask : Word32
  pattern : Word32
deriving DecidableEq, Repr

/-- The word is one of the row's. -/
def Row.has (r : Row) (c : Word32) : Prop := c &&& r.mask = r.pattern

/-- The RESET rows. -/
def rowsReset : List Row := [
  ⟨"RESET.TANK", 0xFFFFFFFF#32, 0x01000001#32⟩,
  ⟨"RESET.BIQUAD", 0xFFFFFFFF#32, 0x01010001#32⟩,
  ⟨"RESET.FDB", 0xFFFFFFFF#32, 0x01020001#32⟩,
  ⟨"RESET.LFO", 0xFFFFFFFF#32, 0x01030001#32⟩,
  ⟨"RESET.ONEPOLE", 0xFFFFFFFF#32, 0x01040001#32⟩,
  ⟨"RESET.SDELAY", 0xFFFFFFFF#32, 0x01050001#32⟩,
  ⟨"RESET.APF", 0xFFFFFFFF#32, 0x01060001#32⟩,
  ⟨"RESET.NAPF", 0xFFFFFFFF#32, 0x01070001#32⟩,
  ⟨"RESET.FILTER", 0xFFFFFFFF#32, 0x01080001#32⟩,
  ⟨"RESET.SHELF", 0xFFFFFFFF#32, 0x01090001#32⟩]

/-- The PLOAD rows. -/
def rowsPload : List Row := [
  ⟨"PLOAD.TANK", 0xFFFFFFFF#32, 0x02000000#32⟩,
  ⟨"PLOAD.BIQUAD", 0xFFFFFFFF#32, 0x02010000#32⟩,
  ⟨"PLOAD.LFO", 0xFFFFFFFF#32, 0x02030000#32⟩,
  ⟨"PLOAD.ONEPOLE", 0xFFFFFFFF#32, 0x02040000#32⟩,
  ⟨"PLOAD.SDELAY", 0xFFFFFFFF#32, 0x02050000#32⟩,
  ⟨"PLOAD.APF", 0xFFFFFFFF#32, 0x02060000#32⟩,
  ⟨"PLOAD.NAPF", 0xFFFFFFFF#32, 0x02070000#32⟩,
  ⟨"PLOAD.FILTER", 0xFFFFFFFF#32, 0x02080000#32⟩,
  ⟨"PLOAD.SHELF", 0xFFFFFFFF#32, 0x02090000#32⟩]

/-- The PSTAGE rows. -/
def rowsPstage : List Row := [
  ⟨"PSTAGE.TANK", 0xFFFF00FF#32, 0x03000001#32⟩,
  ⟨"PSTAGE.BIQUAD", 0xFFFF00FF#32, 0x03010001#32⟩,
  ⟨"PSTAGE.LFO", 0xFFFF00FF#32, 0x03030001#32⟩,
  ⟨"PSTAGE.ONEPOLE", 0xFFFF00FF#32, 0x03040001#32⟩,
  ⟨"PSTAGE.SDELAY", 0xFFFF00FF#32, 0x03050001#32⟩,
  ⟨"PSTAGE.APF", 0xFFFF00FF#32, 0x03060001#32⟩,
  ⟨"PSTAGE.NAPF", 0xFFFF00FF#32, 0x03070001#32⟩,
  ⟨"PSTAGE.FILTER", 0xFFFF00FF#32, 0x03080001#32⟩,
  ⟨"PSTAGE.SHELF", 0xFFFF00FF#32, 0x03090001#32⟩]

/-- The SETP rows. -/
def rowsSetp : List Row := [
  ⟨"SETP.TANK", 0xFFFFFFFF#32, 0x04000000#32⟩,
  ⟨"SETP.BIQUAD", 0xFFFFFFFF#32, 0x04010000#32⟩,
  ⟨"SETP.LFO", 0xFFFFFFFF#32, 0x04030000#32⟩,
  ⟨"SETP.ONEPOLE", 0xFFFFFFFF#32, 0x04040000#32⟩,
  ⟨"SETP.SDELAY", 0xFFFFFFFF#32, 0x04050000#32⟩,
  ⟨"SETP.APF", 0xFFFFFFFF#32, 0x04060000#32⟩,
  ⟨"SETP.NAPF", 0xFFFFFFFF#32, 0x04070000#32⟩,
  ⟨"SETP.FILTER", 0xFFFFFFFF#32, 0x04080000#32⟩,
  ⟨"SETP.SHELF", 0xFFFFFFFF#32, 0x04090000#32⟩]

/-- The GETP rows. -/
def rowsGetp : List Row := [
  ⟨"GETP.TANK", 0xFFFF00FF#32, 0x05000000#32⟩,
  ⟨"GETP.BIQUAD", 0xFFFF00FF#32, 0x05010000#32⟩,
  ⟨"GETP.FDB", 0xFFFF00FF#32, 0x05020000#32⟩,
  ⟨"GETP.LFO", 0xFFFF00FF#32, 0x05030000#32⟩,
  ⟨"GETP.ONEPOLE", 0xFFFF00FF#32, 0x05040000#32⟩,
  ⟨"GETP.SDELAY", 0xFFFF00FF#32, 0x05050000#32⟩,
  ⟨"GETP.APF", 0xFFFF00FF#32, 0x05060000#32⟩,
  ⟨"GETP.NAPF", 0xFFFF00FF#32, 0x05070000#32⟩,
  ⟨"GETP.FILTER", 0xFFFF00FF#32, 0x05080000#32⟩,
  ⟨"GETP.SHELF", 0xFFFF00FF#32, 0x05090000#32⟩]

/-- The PROC rows. -/
def rowsProc : List Row := [
  ⟨"PROC.TANK", 0xFFFFFFFF#32, 0x06000001#32⟩,
  ⟨"PROC.BIQUAD", 0xFFFFFFFF#32, 0x06010001#32⟩,
  ⟨"PROC.ONEPOLE", 0xFFFFFFFF#32, 0x06040001#32⟩,
  ⟨"PROC.SDELAY", 0xFFFFFFFF#32, 0x06050001#32⟩,
  ⟨"PROC.APF", 0xFFFFFFFF#32, 0x06060001#32⟩,
  ⟨"PROC.NAPF", 0xFFFFFFFF#32, 0x06070001#32⟩,
  ⟨"PROC.FILTER", 0xFFFFFFFF#32, 0x06080001#32⟩,
  ⟨"PROC.SHELF", 0xFFFFFFFF#32, 0x06090001#32⟩]

/-- The FRAME rows. -/
def rowsFrame : List Row := [
  ⟨"FRAME.TANK", 0xFFFF0000#32, 0x07000000#32⟩,
  ⟨"FRAME.BIQUAD", 0xFFFF0000#32, 0x07010000#32⟩,
  ⟨"FRAME.FDB", 0xFFFF0000#32, 0x07020000#32⟩,
  ⟨"FRAME.LFO", 0xFFFF0000#32, 0x07030000#32⟩,
  ⟨"FRAME.ONEPOLE", 0xFFFF0000#32, 0x07040000#32⟩,
  ⟨"FRAME.SDELAY", 0xFFFF0000#32, 0x07050000#32⟩,
  ⟨"FRAME.APF", 0xFFFF0000#32, 0x07060000#32⟩,
  ⟨"FRAME.NAPF", 0xFFFF0000#32, 0x07070000#32⟩,
  ⟨"FRAME.FILTER", 0xFFFF0000#32, 0x07080000#32⟩,
  ⟨"FRAME.SHELF", 0xFFFF0000#32, 0x07090000#32⟩]

/-- The CANFRAME rows. -/
def rowsCanframe : List Row := [
  ⟨"CANFRAME.TANK", 0xFFFFFFFF#32, 0x08000000#32⟩,
  ⟨"CANFRAME.BIQUAD", 0xFFFFFFFF#32, 0x08010000#32⟩,
  ⟨"CANFRAME.FDB", 0xFFFFFFFF#32, 0x08020000#32⟩,
  ⟨"CANFRAME.LFO", 0xFFFFFFFF#32, 0x08030000#32⟩,
  ⟨"CANFRAME.ONEPOLE", 0xFFFFFFFF#32, 0x08040000#32⟩,
  ⟨"CANFRAME.SDELAY", 0xFFFFFFFF#32, 0x08050000#32⟩,
  ⟨"CANFRAME.APF", 0xFFFFFFFF#32, 0x08060000#32⟩,
  ⟨"CANFRAME.NAPF", 0xFFFFFFFF#32, 0x08070000#32⟩,
  ⟨"CANFRAME.FILTER", 0xFFFFFFFF#32, 0x08080000#32⟩,
  ⟨"CANFRAME.SHELF", 0xFFFFFFFF#32, 0x08090000#32⟩]

/-- The rows of the accessors. -/
def rowsAccess : List Row := [
  ⟨"BQWC.BIQUAD", 0xFFFF00FF#32, 0x10010001#32⟩,
  ⟨"BQRC.BIQUAD", 0xFFFF00FF#32, 0x11010000#32⟩,
  ⟨"BQGETS.BIQUAD", 0xFFFFFFFF#32, 0x12010000#32⟩,
  ⟨"FLRC.FILTER", 0xFFFF00FF#32, 0x13080000#32⟩,
  ⟨"CREATE.FDB", 0xFFFFFFFF#32, 0x18020001#32⟩,
  ⟨"CREATE.SDELAY", 0xFFFFFFFF#32, 0x18050002#32⟩,
  ⟨"CREATE.APF", 0xFFFFFFFF#32, 0x18060002#32⟩,
  ⟨"CREATE.NAPF", 0xFFFFFFFF#32, 0x18070003#32⟩,
  ⟨"WRITE.FDB", 0xFFFFFFFF#32, 0x19020001#32⟩,
  ⟨"WRITE.SDELAY", 0xFFFFFFFF#32, 0x19050001#32⟩,
  ⟨"READI.FDB", 0xFFFFFFFF#32, 0x1A020001#32⟩,
  ⟨"READF.FDB", 0xFFFFFFFF#32, 0x1B020001#32⟩,
  ⟨"SETI.FDB", 0xFFFFFEFF#32, 0x1C020000#32⟩,
  ⟨"SDREAD.SDELAY", 0xFFFFFFFF#32, 0x1D050000#32⟩,
  ⟨"SDREADT.SDELAY", 0xFFFFFFFF#32, 0x1E050001#32⟩,
  ⟨"SDREADP.SDELAY", 0xFFFFFFFF#32, 0x1F050001#32⟩,
  ⟨"RENDER.LFO", 0xFFFFFFFF#32, 0x20030000#32⟩]

/-- Every row of the opcode table. -/
def opcodeRows : List Row :=
  rowsReset ++ rowsPload ++ rowsPstage ++ rowsSetp ++ rowsGetp ++ rowsProc ++ rowsFrame ++ rowsCanframe ++ rowsAccess

end Sys2Proof.Machine
end

