-- ==== Sys2Proof/Certificates/Slice0/Obligations.lean ====
section
/-! DEFINITION. The statements about the model, in the order of OBLIGATIONS.json. In every equation
`exec i s = .next ((s.setX v).answer n r)` the unit X becomes `v`, the response `r` is appended, the free-value counter
(the model's own) goes to `n`, and every other field of the state stays: the frame is part of the equation. -/

open Sys2Proof Sys2Proof.Machine

/-! ## Encoding and steps -/

/-- Every command the encoder can write is read back, whatever bytes follow (30_encoding.md R110, R111, R120). -/
def Obligations.DecodeOfEncode : Prop :=
  ∀ (i : Instr) (rest : List Byte), i.wf = true → decode (encode i ++ rest) = some (.ok i, rest)

/-- The bytes of a decoded command are the ones the encoder writes: no two requests are one command
(30_encoding.md R110, R111, R120). -/
def Obligations.EncodeOfDecode : Prop :=
  ∀ (i : Instr) (bs rest : List Byte), decode bs = some (.ok i, rest) → i.wf = true ∧ bs = encode i ++ rest

/-- The decoder accepts a request as the row's command exactly when its command word has the row's fixed bits, for every
row of the opcode table (30_encoding.md R120, R121). -/
def Obligations.DecoderAcceptsTheTable : Prop :=
  ∀ r : Request, r.ops.length = cmdNops r.cmd → ∀ row ∈ opcodeRows,
    (row.has r.cmd ↔ ∃ i, decodeRequest r = .ok i ∧ i.mnemonic = row.mnemonic)

/-- Words the spec writes out decode to the commands it names: the examples of 30_encoding.md R125, 43_biquad.md R262,
41_delay_buffer.md R204 and 70_reset_and_hazards.md R546. -/
def Obligations.SpecWordsDecode : Prop :=
  decodeRequest ⟨0x01000001#32, [0x40E5888000000000#64]⟩ = .ok (.resetTank 0x40E5888000000000#64) ∧
  decodeRequest ⟨0x03000701#32, [0x3FE0000000000000#64]⟩ = .ok (.pstageTank 7 0x3FE0000000000000#64) ∧
  decodeRequest ⟨0x07002202#32, [0x000000003F000000#64, 0x00000000BF000000#64]⟩
    = .ok (.frameTank 0x22 [0x000000003F000000#64, 0x00000000BF000000#64]) ∧
  decodeRequest ⟨0x10010001#32, [0x3FE0000000000000#64]⟩ = .ok (.bqwcBiquad 0 0x3FE0000000000000#64) ∧
  decodeRequest ⟨0x1C020000#32, []⟩ = .ok (.setiFdb false) ∧
  decodeRequest ⟨0x04000000#32, []⟩ = .ok .setpTank ∧
  decodeRequest ⟨0x07001101#32, [0x000000003F800000#64]⟩ = .ok (.frameTank 0x11 [0x000000003F800000#64])

/-- The block takes the command word and exactly NOPS operand words, whatever they are, and nothing before all of them
have come (30_encoding.md R110). -/
def Obligations.RequestsAreFramedByNops : Prop :=
  ∀ (r : Request) (rest : List Byte), r.ops.length = cmdNops r.cmd →
    r.bytes.length = 4 + 8 * cmdNops r.cmd ∧
    takeRequest (r.bytes ++ rest) = some (r, rest) ∧
    ∀ k, k < r.bytes.length → takeRequest (r.bytes.take k) = none

/-- One step answers the first request: the decoded command is executed on the state without the request's bytes. While
the request is not complete the step changes nothing (30_encoding.md R110, 60_exceptions.md R525; log 3). -/
def Obligations.StepRunsDecodedCommand : Prop :=
  (∀ (s : State) (i : Instr) (rest : List Byte), i.wf = true → s.rx = encode i ++ rest →
    step s = exec i (s.setRx rest)) ∧
  (∀ (s : State) (i : Instr) (rest : List Byte), decode s.rx = some (.ok i, rest) → step s = exec i (s.setRx rest)) ∧
  (∀ s : State, takeRequest s.rx = none → step s = .next s)

/-- A request whose command word is in no row of the opcode table is refused, its operand words taken, nothing else
changed (30_encoding.md R110, R112, R114, R121, R123). -/
def Obligations.UnlistedRequestsRefused : Prop :=
  ∀ (s : State) (r : Request) (rest : List Byte), s.rx = r.bytes ++ rest → r.ops.length = cmdNops r.cmd →
    (∀ row ∈ opcodeRows, ¬ row.has r.cmd) →
    step s = .next ((s.setRx rest).answer s.draws { status := 4#32, results := [] })

/-- A command whose SEL or NOPS is outside what its row allows is refused and changes nothing (30_encoding.md R113,
R114, R121, R122). -/
def Obligations.FormsOutOfRangeRefused : Prop :=
  ∀ (i : Instr) (s : State), i.formOk = false →
    exec i s = .next (s.answer s.draws { status := 4#32, results := [] })

/-! ## Outcomes -/

/-- Every command is answered with one of the four outcomes: performed, with its row's number of results; or refused, not
ready, or (only a FRAME outside TANK) not handled, each with no results and nothing changed (60_exceptions.md R500, R501,
R502, R503, R511; 30_encoding.md R110). The pending bytes stay, and no command changes the parameters (log 8). -/
def Obligations.EveryCommandIsAnswered : Prop :=
  ∀ (i : Instr) (s : State), ∃ t r, exec i s = .next t ∧ t.tx = s.tx ++ [r] ∧ t.rx = s.rx ∧ t.cfg = s.cfg ∧
    s.draws ≤ t.draws ∧
    (((r.status = 1#32 ∨ r.status = 3#32) ∧ r.results.length = i.nres) ∨
      ((r = { status := 4#32, results := [] } ∨ r = { status := 8#32, results := [] } ∨
        (r = { status := 0#32, results := [] } ∧ i.isOtherFrame = true)) ∧ t = s.answer s.draws r))

/-- Only the commands that reach a flush point can report underflow: PROC, and FRAME of the tank (40_common.md R150, R154;
60_exceptions.md R504). -/
def Obligations.UnderflowOnlyFromFlushPoints : Prop :=
  ∀ (i : Instr) (s t : State) (r : Response), i.flushes = false → exec i s = .next t → t.tx = s.tx ++ [r] →
    r.status ≠ 3#32

/-- A command changes no unit but the one it names, neither its state nor its staging record (10_state.md R30). -/
def Obligations.UnitsAreIsolated : Prop :=
  ∀ (i : Instr) (s t : State) (u : UnitId), exec i s = .next t → u ≠ i.unit → sameUnit u s t

/-- What a command answers, and what it leaves in its unit, depends on that unit alone, besides the parameters and the
free values: the other units can differ without being noticed (10_state.md R30). -/
def Obligations.AnswersDependOnTheirUnit : Prop :=
  ∀ (i : Instr) (s s' t t' : State), sameUnit i.unit s s' → s'.cfg = s.cfg → s'.draws = s.draws →
    exec i s = .next t → exec i s' = .next t' →
    sameUnit i.unit t t' ∧ ∃ r, t.tx = s.tx ++ [r] ∧ t'.tx = s'.tx ++ [r]

/-- Only SETP changes a committed record (10_state.md R31, 40_common.md R171, R176, 70_reset_and_hazards.md R541). -/
def Obligations.RecordsChangeOnlyBySetp : Prop :=
  ∀ (i : Instr) (s t : State), i.isSetp = false → exec i s = .next t → SameRecords s t

/-- Only PLOAD and PSTAGE change a staging record: SETP and RESET keep it (40_common.md R175, R176,
70_reset_and_hazards.md R541, R555). -/
def Obligations.StagingChangesOnlyByPloadPstage : Prop :=
  ∀ (i : Instr) (s t : State), i.isStaging = false → exec i s = .next t → SameStaging s t

/-- The read commands change nothing: no unit, record, cursor or memory word (60_exceptions.md R524, 41_delay_buffer.md
R194). -/
def Obligations.ReadCommandsChangeNothing : Prop :=
  ∀ (i : Instr) (s t : State), i.isRead = true → exec i s = .next t → ∃ n r, t = s.answer n r

/-! ## Invariants -/

/-- Every step keeps the block well formed: buffer lengths powers of two within the limit, cursors inside, memories in
canonical form, the designers' structure, algorithms and shared coefficients, the sections' fixed settings
(10_state.md R45, R52, R53; 44_filter_designer.md R290, R296; 48_allpass.md R403, R421; 49_reverb_tank.md R454). -/
def Obligations.InvKept : Prop :=
  ∀ s t : State, s.Inv → step s = .next t → t.Inv

/-- The power-on state is well formed (10_state.md R60). -/
def Obligations.InvAtReset : Prop := State.reset.Inv

/-- A delay memory once created stays created, so no unit's commands become not ready again (60_exceptions.md R503). -/
def Obligations.MemoriesStayCreated : Prop :=
  ∀ s t : State, step s = .next t → List.Forall₂ (fun b b' => b.alloc = true → b'.alloc = true) s.buffers t.buffers

/-- At power-on every staging record equals its committed record (10_state.md R61). -/
def Obligations.StagingEqualsRecordAtReset : Prop :=
  State.reset.tankStg = State.reset.tank.record ∧ State.reset.biquadStg = State.reset.biquad.record ∧
  State.reset.lfoStg = State.reset.lfo.record ∧ State.reset.onepoleStg = State.reset.onepole.record ∧
  State.reset.sdelayStg = State.reset.sdelay.record ∧ State.reset.apfStg = State.reset.apf.record ∧
  State.reset.napfStg = State.reset.napf.record ∧ State.reset.filterStg = State.reset.filter.record ∧
  State.reset.shelfStg = State.reset.shelf.record

/-- The power-on values: the committed records (10_state.md R33 to R41) as their field numbers show them, the buffers and
the signal state (R60), and in every designer a design of its own record at 44100 Hz that passes its input through
(`c0` a zero, `d0` one; R60, 44_filter_designer.md R294). -/
def Obligations.PowerOnState : Prop :=
  (∀ b ∈ State.reset.buffers, b = { alloc := false, len := 1, mask := 0, w := 0, interp := true, mem := [] }) ∧
  State.reset.tank.record =
    { density := .thick, apfDelayMaxMSec := F64.nearest 5 1, apfDelayWeightPct := F64.nearest 100 1
      fixedDelayMaxMSec := F64.nearest 50 1, fixedDelayWeightPct := F64.nearest 100 1, preDelayTimeMSec := 0
      lpfG := 0, kRT := 0, lowShelfFc := 0, lowShelfBoostCutDb := 0, highShelfFc := 0, highShelfBoostCutDb := 0
      wetLevelDb := F64.neg (F64.nearest 3 1), dryLevelDb := F64.neg (F64.nearest 3 1) } ∧
  State.reset.biquad =
    { record := { algorithm := .direct }
      coef := { a0 := 0, a1 := 0, a2 := 0, b1 := 0, b2 := 0, c0 := 0, d0 := 0 }
      s := { xz1 := 0, xz2 := 0, yz1 := 0, yz2 := 0 } } ∧
  State.reset.lfo =
    { record := { waveform := .triangle, frequencyHz := 0 }, sr := 0, inc := 0, p := 0, q := F64.nearest 1 4 } ∧
  State.reset.onepole = { record := { g := 0 }, state := 0 } ∧
  (∀ d ∈ State.reset.sdelay :: State.reset.tank.lines, d.record = { delayTimeMSec := 0, interpolate := false } ∧
    d.delaySamples = 0 ∧ d.sr = 0 ∧ d.spms = 0 ∧ d.bufMs = 0) ∧
  (∀ a ∈ State.reset.apfs, a.record =
      { delayTimeMSec := 0, apfG := 0, enableLPF := false, lpfG := 0, interpolate := false, enableLFO := false
        lfoRateHz := 0, lfoDepth := 0, lfoMaxModMSec := 0 } ∧
    a.sd = State.reset.sdelay ∧ a.lfo = State.reset.lfo ∧ a.lpfState = 0) ∧
  (∀ n ∈ State.reset.napfs, n.record =
    { outerDelayMSec := 0, innerDelayMSec := 0, outerG := 0, innerG := 0, enableLFO := false, lfoRateHz := 0
      lfoDepth := F64.nearest 1 1, lfoMaxModMSec := 0 }) ∧
  (∀ f ∈ State.reset.filters, f.record.fc = F64.nearest 100 1 ∧ f.record.q = F64.nearest 707 1000 ∧
    f.record.boostCutDb = 0 ∧ f.sr = F64.nearest 44100 1 ∧ DesignGives f.record f.sr f.coef ∧ f.coef.c0 = 0 ∧
    f.coef.d0 = F64.nearest 1 1 ∧ f.bq.coef = f.coef ∧ f.bq.record.algorithm = .transposeCanonical ∧
    f.bq.s = { xz1 := 0, xz2 := 0, yz1 := 0, yz2 := 0 }) ∧
  (State.reset.filter.record.algorithm = .lowShelf ∧ ∀ e ∈ State.reset.shelves, e.lo.record.algorithm = .lowShelf ∧
    e.hi.record.algorithm = .highShelf ∧ e.record = { lowFc := 0, lowBoostCutDb := 0, highFc := 0, highBoostCutDb := 0 }) ∧
  State.reset.tank.sr = 0 ∧ State.reset.tank.lpf = Quad.all State.reset.onepole

/-! ## Arithmetic -/

/-- The sum of two finite values is their exact sum rounded once to nearest, ties to even; an exact zero sum is negative
only of two negative zeros; infinities and NaNs as IEEE 754 has them (00_scope.md R15). -/
def Obligations.SumsRoundToNearest : Prop :=
  ∀ a b : F64,
    (F64.isFinite a = true → F64.isFinite b = true → ∃ v, F64.add? a b = some v ∧
      F64.IsRounding (F64.value a + F64.value b) v ∧
      (F64.value a + F64.value b = 0 → v = F64.zeroOf (F64.sign a && F64.sign b))) ∧
    (F64.isNaN a = true ∨ F64.isNaN b = true → F64.add? a b = none) ∧
    (F64.isInf a = true → F64.isFinite b = true → F64.add? a b = some a) ∧
    (F64.isFinite a = true → F64.isInf b = true → F64.add? a b = some b) ∧
    (F64.isInf a = true → F64.isInf b = true → F64.add? a b = if a = b then some a else none) ∧
    F64.sub? a b = F64.add? a (b ^^^ 0x8000000000000000#64)

/-- The product of two finite values is their exact product rounded once to nearest, ties to even; its sign is the
operands' signs combined; infinities and NaNs as IEEE 754 has them (00_scope.md R15). -/
def Obligations.ProductsRoundToNearest : Prop :=
  ∀ a b : F64,
    (F64.isFinite a = true → F64.isFinite b = true → ∃ v, F64.mul? a b = some v ∧
      F64.IsRounding (F64.value a * F64.value b) v ∧ F64.sign v = (F64.sign a != F64.sign b)) ∧
    (F64.isNaN a = true ∨ F64.isNaN b = true → F64.mul? a b = none) ∧
    (F64.isInf a = true → F64.isNaN b = false → F64.mul? a b = F64.mul? b a ∧
      F64.mul? a b = if F64.isZero b then none else some (F64.inf (F64.sign a != F64.sign b)))

/-- The quotient of two finite values, the divisor not zero, is their exact quotient rounded once to nearest, ties to even;
division by zero gives an infinity, and zero by zero and infinity by infinity a NaN (00_scope.md R15, 40_common.md
R151). -/
def Obligations.QuotientsRoundToNearest : Prop :=
  ∀ a b : F64,
    (F64.isFinite a = true → F64.isFinite b = true → F64.isZero b = false → ∃ v, F64.div? a b = some v ∧
      F64.IsRounding (F64.value a / F64.value b) v ∧ F64.sign v = (F64.sign a != F64.sign b)) ∧
    (F64.isNaN a = true ∨ F64.isNaN b = true → F64.div? a b = none) ∧
    (F64.isFinite a = true → F64.isZero b = true →
      F64.div? a b = if F64.isZero a then none else some (F64.inf (F64.sign a != F64.sign b))) ∧
    (F64.isInf a = true → F64.isInf b = true → F64.div? a b = none) ∧
    (F64.isInf a = true → F64.isFinite b = true → F64.div? a b = some (F64.inf (F64.sign a != F64.sign b))) ∧
    (F64.isFinite a = true → F64.isInf b = true → F64.div? a b = some (F64.zeroOf (F64.sign a != F64.sign b)))

/-- `f32(v)` rounds to nearest, ties to even, keeps the sign, and overflows to the infinity of the same sign
(00_scope.md R17). -/
def Obligations.NarrowingRoundsToNearest : Prop :=
  ∀ v : F64,
    (F64.isFinite v = true → ∃ w, F64.toF32? v = some w ∧ F32.IsRounding (F64.value v) w ∧ w.msb = F64.sign v) ∧
    (F64.isInf v = true → ∃ w, F64.toF32? v = some w ∧ F32.isInf w = true ∧ w.msb = F64.sign v) ∧
    (F64.isNaN v = true → F64.toF32? v = none)

/-- `f64(v)` of a binary32 value is exact, so `f32` of it gives `v` back (00_scope.md R17). -/
def Obligations.WideningIsExact : Prop :=
  ∀ v : F32,
    (F32.isFinite v = true → ∃ w, F32.toF64? v = some w ∧ F64.isFinite w = true ∧ F64.value w = F32.value v) ∧
    (F32.isNaN v = false → ∃ w, F32.toF64? v = some w ∧ F64.toF32? w = some v) ∧
    (F32.isNaN v = true → F32.toF64? v = none)

/-- `trunc(v)` of a finite value is the integer nearest to it in the direction of zero (00_scope.md R17). -/
def Obligations.TruncTowardZero : Prop :=
  ∀ v : F64, F64.isFinite v = true →
    F64.trunc v = if 0 ≤ F64.value v then ⌊F64.value v⌋ else ⌈F64.value v⌉

/-- The comparisons are those of the values, `+0.0` equal to `-0.0` and the infinities at the ends of the order; with a NaN
every one is false but `!=`, which is true (00_scope.md R16). -/
def Obligations.ComparisonsFollowValues : Prop :=
  ∀ a b : F64,
    (F64.isNaN a = false → F64.isNaN b = false →
      (F64.lt a b = true ↔ F64.place a < F64.place b) ∧ (F64.le a b = true ↔ F64.place a ≤ F64.place b) ∧
      (F64.eq a b = true ↔ F64.place a = F64.place b) ∧ (F64.ne a b = true ↔ F64.place a ≠ F64.place b)) ∧
    (F64.isNaN a = true ∨ F64.isNaN b = true →
      F64.lt a b = false ∧ F64.le a b = false ∧ F64.eq a b = false ∧ F64.ne a b = true) ∧
    F64.eq 0x0000000000000000#64 0x8000000000000000#64 = true

/-- A result that is no number is a NaN of the result's format at the next free value, never one named beforehand, and a
result that is a number takes no free value and raises no underflow (40_common.md R150, R158). That the free value is the
constant without a body at the counter `draws`, and that the counter moves by one, is the model's choice (log 4, log 5). -/
def Obligations.ProducedNaNsAreFresh : Prop :=
  (∀ (r : Option F64) (fx : Fx),
    (∀ v, r = some v → (ofOp r).apply fx = (v, fx)) ∧
    (r = none → F64.isNaN ((ofOp r).apply fx).1 = true ∧ (ofOp r).apply fx = (nan64 fx.draws, ⟨fx.draws + 1, fx.uf⟩))) ∧
  (∀ (r : Option F32) (fx : Fx),
    (∀ v, r = some v → (ofOp32 r).apply fx = (v, fx)) ∧
    (r = none → F32.isNaN ((ofOp32 r).apply fx).1 = true ∧
      (ofOp32 r).apply fx = (nan32 fx.draws, ⟨fx.draws + 1, fx.uf⟩)))

/-- FTZ replaces by `+0.0`, setting UF, exactly the values above zero and below the threshold and their negatives; for a
finite positive threshold these are the nonzero values of a smaller magnitude, and both zeros, a NaN, the infinities and
every value of at least that magnitude pass without setting it (40_common.md R153). -/
def Obligations.FlushRule : Prop :=
  ∀ (thr v : F64) (fx : Fx),
    ((F64.lt F64.zero v = true ∧ F64.lt v thr = true) ∨ (F64.lt v F64.zero = true ∧ F64.lt (F64.neg thr) v = true) →
      (ftz thr v).apply fx = (0, ⟨fx.draws, true⟩)) ∧
    (¬ ((F64.lt F64.zero v = true ∧ F64.lt v thr = true) ∨ (F64.lt v F64.zero = true ∧ F64.lt (F64.neg thr) v = true)) →
      (ftz thr v).apply fx = (v, fx)) ∧
    (F64.isFinite thr = true → F64.lt F64.zero thr = true →
      (F64.isFinite v = true → F64.value v ≠ 0 → |F64.value v| < F64.value thr →
        (ftz thr v).apply fx = (0, ⟨fx.draws, true⟩)) ∧
      (F64.isFinite v = false ∨ F64.value v = 0 ∨ F64.value thr ≤ |F64.value v| → (ftz thr v).apply fx = (v, fx)))

/-- `pow2ceil(n)` is the smallest power of two that is at least `n` (00_scope.md R17). -/
def Obligations.Pow2ceilIsSmallest : Prop :=
  ∀ n : Nat, (∃ k, pow2ceil n = 2 ^ k) ∧ n ≤ pow2ceil n ∧ ∀ k, n ≤ 2 ^ k → pow2ceil n ≤ 2 ^ k

/-! ## Delay memories -/

/-- Masking with a power of two less one is reduction modulo that power, for negative indices too; so every word a buffer
reads, and its cursor after a write, is the computed index modulo the length (20_memory.md R82). -/
def Obligations.MaskedIndexIsModulo : Prop :=
  (∀ (k : Int) (n : Nat), (andMask k (2 ^ n - 1) : Int) = k % 2 ^ n) ∧
  (∀ (l : Nat) (b : Fdb), b.Ok l →
    (∀ k : Int, (andMask k b.mask : Int) = k % b.len ∧ andMask k b.mask < b.len) ∧
    (∀ i : Int, fdbReadI b i = Memory.read b.mem (((b.w : Int) - 1 - i) % b.len).toNat) ∧
    (∀ x : F64, (fdbWrite b x).w = (b.w + 1) % b.len))

/-- A word reads as the pattern last written to it, and as `+0.0` while nothing has been; a write changes no other word
(20_memory.md R81) and keeps the canonical form, which is the model's choice for its own list of words (log 9). -/
def Obligations.MemoryReadsLastWrite : Prop :=
  (∀ (len : Nat) (m : Memory) (i j : Nat) (v : F64), Memory.wf len m = true → i < len →
    Memory.wf len (Memory.write m i v) = true ∧
    Memory.read (Memory.write m i v) j = if j = i then v else Memory.read m j) ∧
  (∀ (b : Fdb) (n i : Nat), Memory.read (fdbCreate b n).mem i = 0 ∧ Memory.read (fdbFlush b).mem i = 0)

/-- The integer read `i` gives the sample written `i` writes before the latest: after a run of writes the reads give the
run back, latest first (41_delay_buffer.md R191, R192). -/
def Obligations.BufferReadsBack : Prop :=
  ∀ (l : Nat) (b : Fdb), b.Ok l → ∀ (xs : List F64) (k : Nat) (h : k < xs.length), k < b.len →
    fdbReadI (xs.foldl fdbWrite b) k = xs[xs.length - 1 - k]'(by omega)

/-- A delay line at an integer delay D of at least 1, not interpolating, gives each input back D + 1 samples later while
D + 1 is at most the length, and in general D mod L + 1 samples later, the delay being counted modulo the length
(47_simple_delay.md R364; 41_delay_buffer.md R191, R192; the spec draws the first part from them in R365, marked its own
inference). -/
def Obligations.DelayLineDelays : Prop :=
  ∀ (l : Nat) (d : SDelay) (fx : Fx) (xs : List F64) (D : Nat), d.buf.Ok l → d.buf.interp = false → 1 ≤ D →
    D ≤ 2 ^ 31 - 2 → d.delaySamples = F64.ofInt D →
    (D + 1 ≤ d.buf.len → ∀ n (h : n < xs.length), D + 1 ≤ n →
      (sdRun d fx xs).1[n]? = some (xs[n - 1 - D]'(by omega))) ∧
    (∀ n (h : n < xs.length), D % d.buf.len + 1 ≤ n →
      (sdRun d fx xs).1[n]? = some (xs[n - (D % d.buf.len + 1)]'(by omega)))

/-! ## Lifecycle commands -/

/-- PLOAD copies the committed record to the staging record (40_common.md R170). -/
def Obligations.PloadCopiesRecord : Prop :=
  ∀ s : State,
    exec .ploadTank s = .next ((s.setTankStg s.tank.record).answer s.draws ⟨1#32, []⟩) ∧
    exec .ploadBiquad s = .next ((s.setBiquadStg s.biquad.record).answer s.draws ⟨1#32, []⟩) ∧
    exec .ploadLfo s = .next ((s.setLfoStg s.lfo.record).answer s.draws ⟨1#32, []⟩) ∧
    exec .ploadOnepole s = .next ((s.setOnepoleStg s.onepole.record).answer s.draws ⟨1#32, []⟩) ∧
    exec .ploadSdelay s = .next ((s.setSdelayStg s.sdelay.record).answer s.draws ⟨1#32, []⟩) ∧
    exec .ploadApf s = .next ((s.setApfStg s.apf.record).answer s.draws ⟨1#32, []⟩) ∧
    exec .ploadNapf s = .next ((s.setNapfStg s.napf.record).answer s.draws ⟨1#32, []⟩) ∧
    exec .ploadFilter s = .next ((s.setFilterStg s.filter.record).answer s.draws ⟨1#32, []⟩) ∧
    exec .ploadShelf s = .next ((s.setShelfStg s.shelf.record).answer s.draws ⟨1#32, []⟩)

/-- PSTAGE writes the one field SEL of the staging record, and refuses a SEL beyond the RW fields and an enum or Bool
code at or above the field's code count (40_common.md R162, R171; 30_encoding.md R122). The view numbers the fields as
10_state.md R33 to R41 do. -/
def Obligations.PstageWritesOneField : Prop :=
  ∀ s : State,
    StagesField s .tank 14 (fun r => Tank.field? { s.tank with record := r }) s.tankStg s.setTankStg
      (fun sel v => exec (.pstageTank sel v) s) ∧
    StagesField s .biquad 1 (fun r => Biquad.field? { s.biquad with record := r }) s.biquadStg s.setBiquadStg
      (fun sel v => exec (.pstageBiquad sel v) s) ∧
    StagesField s .lfo 2 (fun r => Lfo.field? { s.lfo with record := r }) s.lfoStg s.setLfoStg
      (fun sel v => exec (.pstageLfo sel v) s) ∧
    StagesField s .onepole 1 (fun r => OnePole.field? { s.onepole with record := r }) s.onepoleStg s.setOnepoleStg
      (fun sel v => exec (.pstageOnepole sel v) s) ∧
    StagesField s .sdelay 2 (fun r => SDelay.field? { s.sdelay with record := r }) s.sdelayStg s.setSdelayStg
      (fun sel v => exec (.pstageSdelay sel v) s) ∧
    StagesField s .apf 9 (fun r => Apf.field? { s.apf with record := r }) s.apfStg s.setApfStg
      (fun sel v => exec (.pstageApf sel v) s) ∧
    StagesField s .napf 8 (fun r => Napf.field? { s.napf with record := r }) s.napfStg s.setNapfStg
      (fun sel v => exec (.pstageNapf sel v) s) ∧
    StagesField s .filter 4 (fun r => Filter.field? { s.filter with record := r }) s.filterStg s.setFilterStg
      (fun sel v => exec (.pstageFilter sel v) s) ∧
    StagesField s .shelf 4 (fun r => Shelf.field? { s.shelf with record := r }) s.shelfStg s.setShelfStg
      (fun sel v => exec (.pstageShelf sel v) s)

/-- GETP reads field SEL of the committed record, or a read-only view, and refuses a SEL beyond the last (40_common.md
R172; the fields and their codes by number, 10_state.md R33 to R42). That the views of a length, a mask and a cursor
answer modulo 2^64 in every state is the model's choice (log 8). -/
def Obligations.GetpReadsField : Prop :=
  (∀ s : State,
    ReadsFields s
      [s.tank.record.density.code, s.tank.record.apfDelayMaxMSec, s.tank.record.apfDelayWeightPct,
        s.tank.record.fixedDelayMaxMSec, s.tank.record.fixedDelayWeightPct, s.tank.record.preDelayTimeMSec,
        s.tank.record.lpfG, s.tank.record.kRT, s.tank.record.lowShelfFc, s.tank.record.lowShelfBoostCutDb,
        s.tank.record.highShelfFc, s.tank.record.highShelfBoostCutDb, s.tank.record.wetLevelDb,
        s.tank.record.dryLevelDb, BitVec.ofNat 64 s.tank.pre.buf.len, BitVec.ofNat 64 s.tank.pre.buf.mask]
      (fun sel => exec (.getpTank sel) s) ∧
    ReadsFields s [s.biquad.record.algorithm.code] (fun sel => exec (.getpBiquad sel) s) ∧
    ReadsFields s
      [BitVec.ofNat 64 s.fdb.len, BitVec.ofNat 64 s.fdb.mask, BitVec.ofNat 64 s.fdb.w,
        if s.fdb.interp then 1#64 else 0#64, if s.fdb.alloc then 1#64 else 0#64]
      (fun sel => exec (.getpFdb sel) s) ∧
    ReadsFields s [s.lfo.record.waveform.code, s.lfo.record.frequencyHz] (fun sel => exec (.getpLfo sel) s) ∧
    ReadsFields s [s.onepole.record.g] (fun sel => exec (.getpOnepole sel) s) ∧
    ReadsFields s
      [s.sdelay.record.delayTimeMSec, if s.sdelay.record.interpolate then 1#64 else 0#64, s.sdelay.delaySamples,
        BitVec.ofNat 64 s.sdelay.buf.len, s.sdelay.spms]
      (fun sel => exec (.getpSdelay sel) s) ∧
    ReadsFields s
      [s.apf.record.delayTimeMSec, s.apf.record.apfG, if s.apf.record.enableLPF then 1#64 else 0#64, s.apf.record.lpfG,
        if s.apf.record.interpolate then 1#64 else 0#64, if s.apf.record.enableLFO then 1#64 else 0#64,
        s.apf.record.lfoRateHz, s.apf.record.lfoDepth, s.apf.record.lfoMaxModMSec]
      (fun sel => exec (.getpApf sel) s) ∧
    ReadsFields s
      [s.napf.record.outerDelayMSec, s.napf.record.innerDelayMSec, s.napf.record.outerG, s.napf.record.innerG,
        if s.napf.record.enableLFO then 1#64 else 0#64, s.napf.record.lfoRateHz, s.napf.record.lfoDepth,
        s.napf.record.lfoMaxModMSec]
      (fun sel => exec (.getpNapf sel) s) ∧
    ReadsFields s
      [s.filter.record.algorithm.code, s.filter.record.fc, s.filter.record.q, s.filter.record.boostCutDb]
      (fun sel => exec (.getpFilter sel) s) ∧
    ReadsFields s
      [s.shelf.record.lowFc, s.shelf.record.lowBoostCutDb, s.shelf.record.highFc, s.shelf.record.highBoostCutDb]
      (fun sel => exec (.getpShelf sel) s)) ∧
  (Density.code .sparse = 0 ∧ Density.code .thick = 1) ∧
  (BqForm.code .direct = 0 ∧ BqForm.code .canonical = 1 ∧ BqForm.code .transposeDirect = 2 ∧
    BqForm.code .transposeCanonical = 3) ∧
  (Waveform.code .triangle = 0 ∧ Waveform.code .sine = 1 ∧ Waveform.code .saw = 2) ∧
  (ShelfKind.code .lowShelf = 0 ∧ ShelfKind.code .highShelf = 1)

/-- CANFRAME answers 1 for TANK and 0 for every other unit (40_common.md R173); FRAME on a unit other than TANK is not handled
and changes nothing, whatever its operand values, in the four legal forms, and is refused in every other (R174). -/
def Obligations.FrameCapability : Prop :=
  ∀ s : State,
    exec .canframeTank s = .next (s.answer s.draws ⟨1#32, [1#64]⟩) ∧
    (∀ i ∈ [Instr.canframeBiquad, .canframeFdb, .canframeLfo, .canframeOnepole, .canframeSdelay, .canframeApf,
        .canframeNapf, .canframeFilter, .canframeShelf],
      exec i s = .next (s.answer s.draws ⟨1#32, [0#64]⟩)) ∧
    (∀ (sel : BitVec 8) (ops : List Word64),
      ∀ i ∈ [Instr.frameBiquad sel ops, .frameFdb sel ops, .frameLfo sel ops, .frameOnepole sel ops,
          .frameSdelay sel ops, .frameApf sel ops, .frameNapf sel ops, .frameFilter sel ops, .frameShelf sel ops],
        (sel ∈ [0x11#8, 0x12#8, 0x21#8, 0x22#8] ∧ ops.length = sel.toNat / 16 →
          exec i s = .next (s.answer s.draws ⟨0#32, []⟩)) ∧
        (¬ (sel ∈ [0x11#8, 0x12#8, 0x21#8, 0x22#8] ∧ ops.length = sel.toNat / 16) →
          exec i s = .next (s.answer s.draws ⟨4#32, []⟩)))

/-- RESET at a valid rate of the six units without a rate-dependent memory: what each sets, all else kept
(70_reset_and_hazards.md R541; 43_biquad.md R265, 41_delay_buffer.md R205, 42_lfo.md R233, 46_one_pole.md R345,
44_filter_designer.md R302, 45_shelving.md R330). -/
def Obligations.ResetPlainUnits : Prop :=
  ∀ (s : State) (sr : F64), F64.isFinite sr = true → F64.lt F64.zero sr = true →
    exec (.resetBiquad sr) s = .next ((s.setBiquad { s.biquad with s := ⟨0, 0, 0, 0⟩ }).answer s.draws ⟨1#32, []⟩) ∧
    exec (.resetFdb sr) s = .next ((s.setFdb (if s.fdb.alloc then { s.fdb with mem := [] } else s.fdb)).answer s.draws
      ⟨1#32, []⟩) ∧
    (∃ o n, LfoRestarted s.lfo sr o ∧ s.draws ≤ n ∧
      exec (.resetLfo sr) s = .next ((s.setLfo o).answer n ⟨1#32, []⟩)) ∧
    exec (.resetOnepole sr) s = .next ((s.setOnepole { s.onepole with state := 0 }).answer s.draws ⟨1#32, []⟩) ∧
    exec (.resetFilter sr) s = .next ((s.setFilter
      { s.filter with sr := sr, bq := { s.filter.bq with s := ⟨0, 0, 0, 0⟩ } }).answer s.draws ⟨1#32, []⟩) ∧
    exec (.resetShelf sr) s = .next ((s.setShelf
      { s.shelf with
        lo := { s.shelf.lo with sr := sr, bq := { s.shelf.lo.bq with s := ⟨0, 0, 0, 0⟩ } }
        hi := { s.shelf.hi with sr := sr, bq := { s.shelf.hi.bq with s := ⟨0, 0, 0, 0⟩ } } }).answer s.draws ⟨1#32, []⟩)

/-- RESET at a valid rate of the delay units: SDELAY at its own rate zeroes the words and keeps the cursor, otherwise it
recreates the memory, as APF and NAPF always do, at the length in milliseconds; refused where a memory does not fit
(47_simple_delay.md R361, R371; 48_allpass.md R402, R422, R431, R435). -/
def Obligations.ResetDelayUnits : Prop :=
  ∀ (s : State) (sr : F64), F64.isFinite sr = true → F64.lt F64.zero sr = true →
    (F64.eq sr s.sdelay.sr = true ∧ s.sdelay.buf.alloc = true → exec (.resetSdelay sr) s =
      .next ((s.setSdelay { s.sdelay with buf := { s.sdelay.buf with mem := [] } }).answer s.draws ⟨1#32, []⟩)) ∧
    (F64.eq sr s.sdelay.sr = false ∨ s.sdelay.buf.alloc = false →
      (fits s.cfg.lmaxLog2 sr s.sdelay.bufMs = true → ∃ d n, LineCreated s.sdelay sr s.sdelay.bufMs d ∧ s.draws ≤ n ∧
        exec (.resetSdelay sr) s = .next ((s.setSdelay d).answer n ⟨1#32, []⟩)) ∧
      (fits s.cfg.lmaxLog2 sr s.sdelay.bufMs = false →
        exec (.resetSdelay sr) s = .next (s.answer s.draws ⟨4#32, []⟩))) ∧
    (fits s.cfg.lmaxLog2 sr s.apf.sd.bufMs = true → ∃ a n, ApfRestarted s.apf sr s.apf.sd.bufMs a ∧ s.draws ≤ n ∧
      exec (.resetApf sr) s = .next ((s.setApf a).answer n ⟨1#32, []⟩)) ∧
    (fits s.cfg.lmaxLog2 sr s.apf.sd.bufMs = false → exec (.resetApf sr) s = .next (s.answer s.draws ⟨4#32, []⟩)) ∧
    (fits s.cfg.lmaxLog2 sr s.napf.outer.sd.bufMs = true ∧ fits s.cfg.lmaxLog2 sr s.napf.inner.sd.bufMs = true →
      ∃ a n, NapfRestarted s.napf sr s.napf.outer.sd.bufMs s.napf.inner.sd.bufMs a ∧ s.draws ≤ n ∧
        exec (.resetNapf sr) s = .next ((s.setNapf a).answer n ⟨1#32, []⟩)) ∧
    (fits s.cfg.lmaxLog2 sr s.napf.outer.sd.bufMs = false ∨ fits s.cfg.lmaxLog2 sr s.napf.inner.sd.bufMs = false →
      exec (.resetNapf sr) s = .next (s.answer s.draws ⟨4#32, []⟩))

/-- RESET.TANK creates all thirteen memories at the configured lengths, restarts every section and both equalizers, and
keeps the records and the latched delays; a rate whose memories do not fit is refused (49_reverb_tank.md R452, R453,
R475). R453's check is fits(sr, 100.0), the default of all three lengths; that the check is made of each configured length is
the model's choice (log 12). -/
def Obligations.ResetTankCreatesMemories : Prop :=
  ∀ (s : State) (sr : F64), F64.isFinite sr = true → F64.lt F64.zero sr = true →
    (fits s.cfg.lmaxLog2 sr s.cfg.preBufMs = true ∧ fits s.cfg.lmaxLog2 sr s.cfg.branchBufMs = true ∧
        fits s.cfg.lmaxLog2 sr s.cfg.apfBufMs = true →
      ∃ t n, TankRestarted s.cfg s.tank sr t ∧ (∀ b ∈ tankBuffers t, b.alloc = true ∧ b.w = 0 ∧ b.mem = []) ∧
        s.draws ≤ n ∧ exec (.resetTank sr) s = .next ((s.setTank t).answer n ⟨1#32, []⟩)) ∧
    (fits s.cfg.lmaxLog2 sr s.cfg.preBufMs = false ∨ fits s.cfg.lmaxLog2 sr s.cfg.branchBufMs = false ∨
        fits s.cfg.lmaxLog2 sr s.cfg.apfBufMs = false →
      exec (.resetTank sr) s = .next (s.answer s.draws ⟨4#32, []⟩))

/-- RESET and CREATE refuse a sample rate that is not finite and positive (40_common.md R160, R176). -/
def Obligations.InvalidRatesRefused : Prop :=
  ∀ (s : State) (sr ms ms' : F64), F64.isFinite sr = false ∨ F64.lt F64.zero sr = false →
    ∀ i ∈ [Instr.resetTank sr, .resetBiquad sr, .resetFdb sr, .resetLfo sr, .resetOnepole sr, .resetSdelay sr,
        .resetApf sr, .resetNapf sr, .resetFilter sr, .resetShelf sr, .createSdelay sr ms, .createApf sr ms,
        .createNapf sr ms ms'],
      exec i s = .next (s.answer s.draws ⟨4#32, []⟩)

/-- SETP of BIQUAD, ONEPOLE and LFO commits the staging record: the signal state is kept, and the oscillator's increment is
recomputed only when the frequency changed (43_biquad.md R252, R266; 46_one_pole.md R342, R346; 42_lfo.md R224, R234). That
this holds before the first RESET too, against 70_reset_and_hazards.md R552, is the model's choice (log 26). -/
def Obligations.SetpPlainUnits : Prop :=
  ∀ s : State,
    exec .setpBiquad s = .next ((s.setBiquad { s.biquad with record := s.biquadStg }).answer s.draws ⟨1#32, []⟩) ∧
    exec .setpOnepole s = .next ((s.setOnepole { s.onepole with record := s.onepoleStg }).answer s.draws ⟨1#32, []⟩) ∧
    (∃ o n, LfoSet s.lfo s.lfoStg o ∧ s.draws ≤ n ∧ exec .setpLfo s = .next ((s.setLfo o).answer n ⟨1#32, []⟩))

/-- SETP of FILTER and SHELF redesigns a designer only when a field of it changed, from the committed fields at its current
rate, a non-positive Q stored as 0.707 (44_filter_designer.md R292 to R296, R303; 45_shelving.md R321, R331). -/
def Obligations.SetpDesigners : Prop :=
  ∀ s : State,
    (∃ f n, FilterSet s.filter s.filterStg f ∧ s.draws ≤ n ∧
      exec .setpFilter s = .next ((s.setFilter f).answer n ⟨1#32, []⟩)) ∧
    (∃ e n, ShelfSet s.shelf s.shelfStg e ∧ s.draws ≤ n ∧
      exec .setpShelf s = .next ((s.setShelf e).answer n ⟨1#32, []⟩))

/-- SETP of SDELAY, APF and NAPF latches the delay in samples at the rate in use, every time; no memory word, cursor or
length changes (47_simple_delay.md R363, R372; 48_allpass.md R403, R421, R432, R436). -/
def Obligations.SetpDelayUnits : Prop :=
  ∀ s : State,
    (∃ d n, LineSet s.sdelay s.sdelayStg d ∧ s.draws ≤ n ∧
      exec .setpSdelay s = .next ((s.setSdelay d).answer n ⟨1#32, []⟩)) ∧
    (∃ a n, ApfSet s.apf s.apfStg a ∧ s.draws ≤ n ∧ exec .setpApf s = .next ((s.setApf a).answer n ⟨1#32, []⟩)) ∧
    (∃ a n, NapfSet s.napf s.napfStg a ∧ s.draws ≤ n ∧ exec .setpNapf s = .next ((s.setNapf a).answer n ⟨1#32, []⟩))

/-- SETP.TANK configures every sub-unit from the staging record: the branch times from two shared maximum times and the
weight tables (49_reverb_tank.md R454, R476). -/
def Obligations.SetpTankConfiguresBranches : Prop :=
  ∀ s : State, ∃ t n, TankSet s.cfg s.tank s.tankStg t ∧ s.draws ≤ n ∧
    exec .setpTank s = .next ((s.setTank t).answer n ⟨1#32, []⟩)

/-! ## Processing -/

/-- PROC.BIQUAD runs the step of the committed structure, its output flushed, UF its flush (43_biquad.md R253 to R257,
R267). That the equation decides the sign of a zero output, where R267's corner case says `+0.0`, is the model's choice
(log 21). -/
def Obligations.ProcBiquadStructures : Prop :=
  ∀ (s : State) (x : F64), ∃ y0 r n, s.draws ≤ n ∧
    (match s.biquad.record.algorithm with
      | .direct => DirectSum s.biquad.coef s.biquad.s x y0 ∧
          r = { xz1 := x, xz2 := s.biquad.s.xz1, yz1 := flushOf s.cfg.ftzThreshold y0, yz2 := s.biquad.s.yz1 }
      | .canonical => ∃ w, CanonicalSum s.biquad.coef s.biquad.s x w y0 ∧
          r = { s.biquad.s with xz1 := w, xz2 := s.biquad.s.xz1 }
      | .transposeDirect => TransposeDirectSum s.biquad.coef s.biquad.s x y0 r
      | .transposeCanonical => TransposeCanonicalSum s.cfg.ftzThreshold s.biquad.coef s.biquad.s x y0 r) ∧
    exec (.procBiquad x) s = .next ((s.setBiquad { s.biquad with s := r }).answer n
      ⟨if flushed s.cfg.ftzThreshold y0 then 3#32 else 1#32, [flushOf s.cfg.ftzThreshold y0]⟩)

/-- PROC.ONEPOLE gives `(1.0 - g)*x + g*state`, flushed where FTZ_ONEPOLE says so, and stores it (46_one_pole.md R341,
R347; 40_common.md R154). -/
def Obligations.ProcOnepoleRecursion : Prop :=
  ∀ (s : State) (x : F64), ∃ k a b y0 y uf n, Gives (F64.sub? F64.one s.onepole.record.g) k ∧ Gives (F64.mul? k x) a ∧
    Gives (F64.mul? s.onepole.record.g s.onepole.state) b ∧ Gives (F64.add? a b) y0 ∧
    (if s.cfg.ftzOnepole then y = flushOf s.cfg.ftzThreshold y0 ∧ uf = flushed s.cfg.ftzThreshold y0
      else y = y0 ∧ uf = false) ∧
    s.draws ≤ n ∧
    exec (.procOnepole x) s = .next ((s.setOnepole { s.onepole with state := y }).answer n ⟨handledStatus uf, [y]⟩)

/-- PROC.FILTER gives `d0*x + c0*y` of its biquad's output, and PROC.SHELF runs the low shelf and then the high shelf
(44_filter_designer.md R297, R304; 45_shelving.md R322, R332). That the equation decides the sign of a zero output, where
R304's corner case says `+0.0`, is the model's choice (log 24). -/
def Obligations.ProcDesigners : Prop :=
  ∀ (s : State) (x : F64),
    (∃ y f uf n, FilterStep s.cfg.ftzThreshold s.filter x y f uf ∧ s.draws ≤ n ∧
      exec (.procFilter x) s = .next ((s.setFilter f).answer n ⟨handledStatus uf, [y]⟩)) ∧
    (∃ y e uf n, ShelfStep s.cfg.ftzThreshold s.shelf x y e uf ∧ s.draws ≤ n ∧
      exec (.procShelf x) s = .next ((s.setShelf e).answer n ⟨handledStatus uf, [y]⟩))

/-- PROC.SDELAY returns its input and touches nothing where the latched delay is zero; else it reads at the delay and then
writes the input at the cursor (47_simple_delay.md R364, R373). -/
def Obligations.ProcSdelayReadsThenWrites : Prop :=
  ∀ (s : State) (x : F64),
    (F64.eq s.sdelay.delaySamples F64.zero = true →
      exec (.procSdelay x) s = .next (s.answer s.draws ⟨1#32, [x]⟩)) ∧
    (F64.eq s.sdelay.delaySamples F64.zero = false → s.sdelay.buf.alloc = true →
      ∃ y n, ReadGives s.sdelay.buf s.sdelay.delaySamples y ∧ s.draws ≤ n ∧
        exec (.procSdelay x) s = .next ((s.setSdelay { s.sdelay with buf := fdbWrite s.sdelay.buf x }).answer n
          ⟨1#32, [y]⟩))

/-- PROC.APF and PROC.NAPF: a zero latched delay is a bypass that touches nothing; else the tap, the damping, the all-pass
equations, the flush and the write, the nested cell storing its inner section's output (48_allpass.md R410 to R413, R423,
R433, R437). That `clamp01` of a NaN may be 0.0 or 1.0 is the model's choice (log 20). -/
def Obligations.ProcAllpassSections : Prop :=
  ∀ (s : State) (x : F64),
    (F64.eq s.apf.sd.delaySamples F64.zero = true → exec (.procApf x) s = .next (s.answer s.draws ⟨1#32, [x]⟩)) ∧
    (F64.eq s.apf.sd.delaySamples F64.zero = false → s.apf.sd.buf.alloc = true →
      ∃ y a uf n, ApfStep s.cfg s.apf x y a uf ∧ s.draws ≤ n ∧
        exec (.procApf x) s = .next ((s.setApf a).answer n ⟨handledStatus uf, [y]⟩)) ∧
    (F64.eq s.napf.outer.sd.delaySamples F64.zero = true →
      exec (.procNapf x) s = .next (s.answer s.draws ⟨1#32, [x]⟩)) ∧
    (F64.eq s.napf.outer.sd.delaySamples F64.zero = false → s.napf.outer.sd.buf.alloc = true →
      F64.eq s.napf.inner.sd.delaySamples F64.zero = true ∨ s.napf.inner.sd.buf.alloc = true →
      ∃ y a uf n, NapfStep s.cfg s.napf x y a uf ∧ s.draws ≤ n ∧
        exec (.procNapf x) s = .next ((s.setNapf a).answer n ⟨handledStatus uf, [y]⟩))

/-- FRAME.TANK of a legal form, on f32 words, with every memory created, runs one frame of the tank: the feedback, the
mono sum, the pre-delay, the four branches, the taps, the equalizers and the mix (49_reverb_tank.md R460 to R468, R480). An
operand word with a bit of 63:32 set is refused (30_encoding.md R116). -/
def Obligations.FrameTankRunsOneFrame : Prop :=
  ∀ (s : State) (sel : BitVec 8) (ops : List Word64) (inCh outCh : Nat), inCh = 1 ∨ inCh = 2 → outCh = 1 ∨ outCh = 2 →
    sel.toNat = 16 * inCh + outCh → ops.length = inCh →
    ((∀ w ∈ ops, w.toNat < 2 ^ 32) → (∀ b ∈ tankBuffers s.tank, b.alloc = true) →
      ∃ outs t uf n, FrameStep s.cfg s.tank inCh outCh ((ops.getD 0 0).setWidth 32) ((ops.getD 1 0).setWidth 32) outs t uf ∧
        outs.length = outCh ∧ s.draws ≤ n ∧
        exec (.frameTank sel ops) s = .next ((s.setTank t).answer n
          ⟨handledStatus uf, outs.map fun o => o.setWidth 64⟩)) ∧
    ((∃ w ∈ ops, 2 ^ 32 ≤ w.toNat) → exec (.frameTank sel ops) s = .next (s.answer s.draws ⟨4#32, []⟩))

/-- PROC.TANK is a one-in, one-out frame on `f32(x)`, its output widened; for an input that is no NaN it leaves the state,
the status and the sample that FRAME.TANK 1>1 leaves, where that sample is no NaN (49_reverb_tank.md R481). -/
def Obligations.ProcTankIsMonoFrame : Prop :=
  ∀ (s : State) (x : F64), (∀ b ∈ tankBuffers s.tank, b.alloc = true) →
    (∃ i o y t uf n, Gives32 (F64.toF32? x) i ∧ FrameStep s.cfg s.tank 1 1 i 0 [o] t uf ∧ Gives (F32.toF64? o) y ∧
      s.draws ≤ n ∧ exec (.procTank x) s = .next ((s.setTank t).answer n ⟨handledStatus uf, [y]⟩)) ∧
    (∀ i, F64.toF32? x = some i → ∃ o t uf n,
      exec (.frameTank 0x11 [i.setWidth 64]) s = .next ((s.setTank t).answer n ⟨handledStatus uf, [o.setWidth 64]⟩) ∧
      ∀ y, F32.toF64? o = some y →
        exec (.procTank x) s = .next ((s.setTank t).answer n ⟨handledStatus uf, [y]⟩))

/-! ## Accessors -/

/-- BQWC writes coefficient k of the biquad and nothing else, BQRC and FLRC read coefficient k, each refusing k above 6, and
BQGETS reads the storage accessor (43_biquad.md R258, R262, R263, R264; 44_filter_designer.md R301). -/
def Obligations.CoefficientAccess : Prop :=
  ∀ s : State,
    (∀ (k : BitVec 8) (c : F64), k.toNat < 7 → ∃ coef, coef.slots = s.biquad.coef.slots.set k.toNat c ∧
      exec (.bqwcBiquad k c) s = .next ((s.setBiquad { s.biquad with coef := coef }).answer s.draws ⟨1#32, []⟩)) ∧
    (∀ (k : BitVec 8) (c : F64), 7 ≤ k.toNat → exec (.bqwcBiquad k c) s = .next (s.answer s.draws ⟨4#32, []⟩)) ∧
    ReadsFields s s.biquad.coef.slots (fun k => exec (.bqrcBiquad k) s) ∧
    ReadsFields s s.filter.coef.slots (fun k => exec (.flrcFilter k) s) ∧
    ∃ y n, StorageGives s.biquad y ∧ s.draws ≤ n ∧ exec .bqgetsBiquad s = .next (s.answer n ⟨1#32, [y]⟩)

/-- CREATE makes a memory of the next power of two, zeroed, its cursor 0, its switch kept, and latches no delay; it is
refused where the memory does not fit, NAPF's two memories both or neither (41_delay_buffer.md R190, R200;
47_simple_delay.md R360, R370; 48_allpass.md R401, R420, R430, R434; 40_common.md R161). -/
def Obligations.CreateMakesMemory : Prop :=
  (∀ (s : State) (n : Word64),
    (pow2ceil (max n.toNat 1) ≤ 2 ^ s.cfg.lmaxLog2 →
      exec (.createFdb n) s = .next ((s.setFdb (freshBuffer s.fdb.interp n.toNat)).answer s.draws ⟨1#32, []⟩)) ∧
    (2 ^ s.cfg.lmaxLog2 < pow2ceil (max n.toNat 1) →
      exec (.createFdb n) s = .next (s.answer s.draws ⟨4#32, []⟩))) ∧
  (∀ (s : State) (sr ms ms' : F64), F64.isFinite sr = true → F64.lt F64.zero sr = true →
    (fits s.cfg.lmaxLog2 sr ms = true →
      (∃ d n, LineCreated s.sdelay sr ms d ∧ s.draws ≤ n ∧
        exec (.createSdelay sr ms) s = .next ((s.setSdelay d).answer n ⟨1#32, []⟩)) ∧
      (∃ d n, LineCreated s.apf.sd sr ms d ∧ s.draws ≤ n ∧
        exec (.createApf sr ms) s = .next ((s.setApf { s.apf with sd := d }).answer n ⟨1#32, []⟩))) ∧
    (fits s.cfg.lmaxLog2 sr ms = false →
      exec (.createSdelay sr ms) s = .next (s.answer s.draws ⟨4#32, []⟩) ∧
      exec (.createApf sr ms) s = .next (s.answer s.draws ⟨4#32, []⟩)) ∧
    (fits s.cfg.lmaxLog2 sr ms = true ∧ fits s.cfg.lmaxLog2 sr ms' = true →
      ∃ d d' n, LineCreated s.napf.outer.sd sr ms d ∧ LineCreated s.napf.inner.sd sr ms' d' ∧ s.draws ≤ n ∧
        exec (.createNapf sr ms ms') s = .next ((s.setNapf
          { s.napf with outer := { s.napf.outer with sd := d }, inner := { s.napf.inner with sd := d' } }).answer n
            ⟨1#32, []⟩)) ∧
    (fits s.cfg.lmaxLog2 sr ms = false ∨ fits s.cfg.lmaxLog2 sr ms' = false →
      exec (.createNapf sr ms ms') s = .next (s.answer s.draws ⟨4#32, []⟩)))

/-- The FDB unit, its memory created: WRITE stores at the cursor and advances it, READI reads an integer delay and refuses
one outside 32 bits, READF reads a fractional delay, any value where it is out of domain; SETI sets the switch, created
or not (41_delay_buffer.md R191 to R193, R195, R201 to R204; 40_common.md R157). -/
def Obligations.FdbAccess : Prop :=
  ∀ s : State,
    (∀ v : Bool, exec (.setiFdb v) s = .next ((s.setFdb { s.fdb with interp := v }).answer s.draws ⟨1#32, []⟩)) ∧
    (∀ d : Word64, d.toInt < -2 ^ 31 ∨ 2 ^ 31 - 1 < d.toInt →
      exec (.readiFdb d) s = .next (s.answer s.draws ⟨4#32, []⟩)) ∧
    (s.fdb.alloc = true → ∀ l, s.fdb.Ok l →
      (∀ x : F64, ∃ m, exec (.writeFdb x) s =
          .next ((s.setFdb { s.fdb with mem := m, w := (s.fdb.w + 1) % s.fdb.len }).answer s.draws ⟨1#32, []⟩) ∧
        ∀ j, Memory.read m j = if j = s.fdb.w then x else Memory.read s.fdb.mem j) ∧
      (∀ d : Word64, -2 ^ 31 ≤ d.toInt ∧ d.toInt ≤ 2 ^ 31 - 1 → exec (.readiFdb d) s =
        .next (s.answer s.draws ⟨1#32, [Memory.read s.fdb.mem (((s.fdb.w : Int) - 1 - d.toInt) % s.fdb.len).toNat]⟩)) ∧
      (∀ d : F64, ∃ y n, ReadGives s.fdb d y ∧ s.draws ≤ n ∧
        exec (.readfFdb d) s = .next (s.answer n ⟨1#32, [y]⟩)))

/-- The SDELAY unit, its memory created: WRITE stores without reading, and SDREAD, SDREADT and SDREADP read at the latched
delay, at a time and at a percentage of the delay, with no bypass (47_simple_delay.md R366 to R369, R375 to R378). -/
def Obligations.DelayLineAccess : Prop :=
  ∀ s : State, s.sdelay.buf.alloc = true →
    (∀ x : F64, exec (.writeSdelay x) s =
      .next ((s.setSdelay { s.sdelay with buf := fdbWrite s.sdelay.buf x }).answer s.draws ⟨1#32, []⟩)) ∧
    (∃ y n, ReadGives s.sdelay.buf s.sdelay.delaySamples y ∧ s.draws ≤ n ∧
      exec .sdreadSdelay s = .next (s.answer n ⟨1#32, [y]⟩)) ∧
    (∀ ms : F64, ∃ y n, ReadTimeGives s.sdelay ms y ∧ s.draws ≤ n ∧
      exec (.sdreadtSdelay ms) s = .next (s.answer n ⟨1#32, [y]⟩)) ∧
    (∀ pct : F64, ∃ y n, ReadPercentGives s.sdelay pct y ∧ s.draws ≤ n ∧
      exec (.sdreadpSdelay pct) s = .next (s.answer n ⟨1#32, [y]⟩))

/-- RENDER wraps the phase, gives the outputs at it and a quarter period on, with their negatives, and then advances
(42_lfo.md R222, R223, R225, R232). That a phase outside `[0, 1)` is used as the equations leave it, where R226 bounds the
outputs, is the model's choice (log 23). -/
def Obligations.RenderAdvancesPhase : Prop :=
  ∀ s : State, ∃ normal quadPos o n, RenderGives s.lfo normal quadPos o ∧ s.draws ≤ n ∧
    exec .renderLfo s = .next ((s.setLfo o).answer n
      ⟨1#32, [normal, normal ^^^ 0x8000000000000000#64, quadPos, quadPos ^^^ 0x8000000000000000#64]⟩)

/-- A command that would read or write a memory never created is not ready and changes nothing (60_exceptions.md R503). -/
def Obligations.NotReadyWithoutMemory : Prop :=
  ∀ s : State,
    (s.fdb.alloc = false → ∀ x : F64,
      exec (.writeFdb x) s = .next (s.answer s.draws ⟨8#32, []⟩) ∧
      (∀ d : Word64, -2 ^ 31 ≤ d.toInt ∧ d.toInt ≤ 2 ^ 31 - 1 →
        exec (.readiFdb d) s = .next (s.answer s.draws ⟨8#32, []⟩)) ∧
      exec (.readfFdb x) s = .next (s.answer s.draws ⟨8#32, []⟩)) ∧
    (s.sdelay.buf.alloc = false → ∀ x : F64,
      (F64.eq s.sdelay.delaySamples F64.zero = false →
        exec (.procSdelay x) s = .next (s.answer s.draws ⟨8#32, []⟩)) ∧
      exec (.writeSdelay x) s = .next (s.answer s.draws ⟨8#32, []⟩) ∧
      exec .sdreadSdelay s = .next (s.answer s.draws ⟨8#32, []⟩) ∧
      exec (.sdreadtSdelay x) s = .next (s.answer s.draws ⟨8#32, []⟩) ∧
      exec (.sdreadpSdelay x) s = .next (s.answer s.draws ⟨8#32, []⟩)) ∧
    (s.apf.sd.buf.alloc = false → F64.eq s.apf.sd.delaySamples F64.zero = false → ∀ x : F64,
      exec (.procApf x) s = .next (s.answer s.draws ⟨8#32, []⟩)) ∧
    (F64.eq s.napf.outer.sd.delaySamples F64.zero = false →
      s.napf.outer.sd.buf.alloc = false ∨
        (F64.eq s.napf.inner.sd.delaySamples F64.zero = false ∧ s.napf.inner.sd.buf.alloc = false) →
      ∀ x : F64, exec (.procNapf x) s = .next (s.answer s.draws ⟨8#32, []⟩)) ∧
    ((∃ b ∈ tankBuffers s.tank, b.alloc = false) →
      (∀ x : F64, exec (.procTank x) s = .next (s.answer s.draws ⟨8#32, []⟩)) ∧
      (∀ (sel : BitVec 8) (ops : List Word64), sel ∈ [0x11#8, 0x12#8, 0x21#8, 0x22#8] → ops.length = sel.toNat / 16 →
        (∀ w ∈ ops, w.toNat < 2 ^ 32) →
        exec (.frameTank sel ops) s = .next (s.answer s.draws ⟨8#32, []⟩)))

/-- The parameters at power-on are the spec's defaults, each the value nearest its decimal, and the output taps are the
table's, the thick ones after the sparse ones with the signs alternating (00_scope.md R6 to R8, 49_reverb_tank.md R450,
R451, R464; that they are the defaults is the model's choice, log 8, and so are R451's counts of taps against those of
70_reset_and_hazards.md R571, log 25). -/
def Obligations.ConstantsAtReset : Prop :=
  State.reset.cfg.lmaxLog2 = 20 ∧ State.reset.cfg.ftzOnepole = true ∧
  State.reset.cfg.ftzThreshold = F64.nearest 1175494351 (10 ^ 47) ∧
  State.reset.cfg.preBufMs = F64.nearest 100 1 ∧ State.reset.cfg.branchBufMs = F64.nearest 100 1 ∧
  State.reset.cfg.apfBufMs = F64.nearest 100 1 ∧
  State.reset.cfg.apfW.toList = [(F64.nearest 317 1000, F64.nearest 495 1000), (F64.nearest 781 1000, F64.nearest 552 1000),
    (F64.nearest 433 1000, F64.nearest 884 1000), (F64.nearest 578 1000, F64.nearest 960 1000)] ∧
  State.reset.cfg.fixW.toList = [F64.nearest 1 1, F64.nearest 873 1000, F64.nearest 707 1000, F64.nearest 667 1000] ∧
  State.reset.cfg.lfoRate.toList = [F64.nearest 15 100, F64.nearest 33 100, F64.nearest 57 100, F64.nearest 73 100] ∧
  State.reset.cfg.lfoMaxModMs = F64.nearest 3 10 ∧ State.reset.cfg.lfoDepth = F64.nearest 1 1 ∧
  State.reset.cfg.outerG = F64.nearest 1 2 ∧ State.reset.cfg.innerG = F64.neg (F64.nearest 1 2) ∧
  State.reset.cfg.tapW = F64.nearest 707 1000 ∧
  leftTaps State.reset.cfg .sparse = [⟨0, F64.nearest 23 1, true⟩, ⟨1, F64.nearest 41 1, false⟩, ⟨2, F64.nearest 59 1, true⟩,
    ⟨3, F64.nearest 73 1, false⟩] ∧
  leftTaps State.reset.cfg .thick = leftTaps State.reset.cfg .sparse ++ [⟨0, F64.nearest 31 1, true⟩,
    ⟨1, F64.nearest 47 1, false⟩, ⟨2, F64.nearest 67 1, true⟩, ⟨3, F64.nearest 83 1, false⟩] ∧
  rightTaps State.reset.cfg .sparse = [⟨0, F64.nearest 29 1, false⟩, ⟨1, F64.nearest 43 1, true⟩,
    ⟨2, F64.nearest 61 1, false⟩, ⟨3, F64.nearest 79 1, true⟩] ∧
  rightTaps State.reset.cfg .thick = rightTaps State.reset.cfg .sparse ++ [⟨0, F64.nearest 37 1, false⟩,
    ⟨1, F64.nearest 53 1, true⟩, ⟨2, F64.nearest 71 1, false⟩, ⟨3, F64.nearest 89 1, true⟩]
end

