-- ==== Sys2Proof/Laws/Decode.lean ====
section
/-! SUPPORT. The bytes of a request and back (spec/30_encoding.md R110, R111, 20_memory.md R88): what each helper of the
decoder takes and gives. -/

namespace Sys2Proof

/-! ## Bytes and numbers -/

@[simp] theorem bytesOfNat_length (n v : Nat) : (bytesOfNat n v).length = n := by
  induction n generalizing v with
  | zero => rfl
  | succ n ih => simp [bytesOfNat, ih]

/-- Bytes written from a number give its low part back. -/
theorem natOfBytes_bytesOfNat (n v : Nat) : natOfBytes (bytesOfNat n v) = v % 2 ^ (8 * n) := by
  induction n generalizing v with
  | zero => simp [bytesOfNat, natOfBytes, Nat.mod_one]
  | succ n ih =>
    have e : 2 ^ (8 * (n + 1)) = 2 ^ 8 * 2 ^ (8 * n) := by rw [← Nat.pow_add]; congr 1; omega
    rw [bytesOfNat, natOfBytes, ih, BitVec.toNat_ofNat, e, Nat.mod_mul]

/-- A number read from bytes writes the same bytes. -/
theorem bytesOfNat_natOfBytes (bs : List Byte) : bytesOfNat bs.length (natOfBytes bs) = bs := by
  induction bs with
  | nil => rfl
  | cons b bs ih =>
    have hb := b.isLt
    have h1 : (b.toNat + 2 ^ 8 * natOfBytes bs) / 2 ^ 8 = natOfBytes bs := by omega
    have h2 : BitVec.ofNat 8 (b.toNat + 2 ^ 8 * natOfBytes bs) = b := by
      apply BitVec.eq_of_toNat_eq
      rw [BitVec.toNat_ofNat]
      omega
    rw [List.length_cons, bytesOfNat, natOfBytes, h1, h2, ih]

theorem natOfBytes_lt (bs : List Byte) : natOfBytes bs < 2 ^ (8 * bs.length) := by
  have h := natOfBytes_bytesOfNat bs.length (natOfBytes bs)
  rw [bytesOfNat_natOfBytes] at h
  exact h ▸ Nat.mod_lt _ (Nat.two_pow_pos _)

/-! ## Taking words from the front -/

theorem takeBytes_append {n : Nat} {t : List Byte} (h : t.length = n) (r : List Byte) :
    takeBytes n (t ++ r) = some (t, r) := by
  induction t generalizing n with
  | nil => subst h; rfl
  | cons b t ih => subst h; simp [takeBytes, ih rfl]

theorem takeBytes_some {n : Nat} {bs t r : List Byte} (h : takeBytes n bs = some (t, r)) :
    bs = t ++ r ∧ t.length = n := by
  induction n generalizing bs t with
  | zero => simp only [takeBytes, Option.some.injEq, Prod.mk.injEq] at h; simp [← h.1, ← h.2]
  | succ n ih =>
    cases bs with
    | nil => simp [takeBytes] at h
    | cons b bs =>
      simp only [takeBytes] at h
      split at h
      · simp at h
      · next t' r' e =>
        simp only [Option.some.injEq, Prod.mk.injEq] at h
        obtain ⟨rfl, rfl⟩ := h
        have := ih e
        exact ⟨by rw [this.1]; rfl, by rw [List.length_cons, this.2]⟩

/-- There are not enough bytes exactly where the take fails. -/
theorem takeBytes_none {n : Nat} {bs : List Byte} : takeBytes n bs = none ↔ bs.length < n := by
  constructor
  · intro h
    by_contra hn
    have := takeBytes_append (n := n) (t := bs.take n) (by simp; omega) (bs.drop n)
    rw [List.take_append_drop, h] at this
    simp at this
  · intro h
    cases e : takeBytes n bs with
    | none => rfl
    | some p => have := takeBytes_some (t := p.1) (r := p.2) e; rw [this.1] at h; simp at h; omega

theorem ofNat_natOfBytes_word (w : Word64) : BitVec.ofNat 64 (natOfBytes (bytesOfNat 8 w.toNat)) = w := by
  apply BitVec.eq_of_toNat_eq
  have := w.isLt
  rw [natOfBytes_bytesOfNat, BitVec.toNat_ofNat]
  omega

theorem ofNat_natOfBytes_cmd (c : Word32) : BitVec.ofNat 32 (natOfBytes (bytesOfNat 4 c.toNat)) = c := by
  apply BitVec.eq_of_toNat_eq
  have := c.isLt
  rw [natOfBytes_bytesOfNat, BitVec.toNat_ofNat]
  omega

/-- Operand words are read back as they were written. -/
theorem takeOps_append (ws : List Word64) (r : List Byte) :
    takeOps ws.length ((ws.flatMap fun w => bytesOfNat 8 w.toNat) ++ r) = some (ws, r) := by
  induction ws with
  | nil => rfl
  | cons w ws ih =>
    rw [List.length_cons, takeOps, List.flatMap_cons, List.append_assoc, takeBytes_append (bytesOfNat_length _ _)]
    simp only [ih, ofNat_natOfBytes_word]

/-- Operand words that were read stand in the bytes as they are written. -/
theorem takeOps_some {n : Nat} {bs r : List Byte} {ws : List Word64} (h : takeOps n bs = some (ws, r)) :
    bs = (ws.flatMap fun w => bytesOfNat 8 w.toNat) ++ r ∧ ws.length = n := by
  induction n generalizing bs ws with
  | zero => simp only [takeOps, Option.some.injEq, Prod.mk.injEq] at h; simp [← h.1, ← h.2]
  | succ n ih =>
    simp only [takeOps] at h
    split at h
    · simp at h
    · next w r1 e =>
      split at h
      · simp at h
      · next ws' r2 e' =>
        simp only [Option.some.injEq, Prod.mk.injEq] at h
        obtain ⟨rfl, rfl⟩ := h
        obtain ⟨h1, h2⟩ := takeBytes_some e
        obtain ⟨h3, h4⟩ := ih e'
        have hlt := natOfBytes_lt w
        rw [h2] at hlt
        have hw : bytesOfNat 8 (BitVec.ofNat 64 (natOfBytes w)).toNat = w := by
          rw [BitVec.toNat_ofNat, Nat.mod_eq_of_lt (by simpa using hlt), ← h2, bytesOfNat_natOfBytes]
        refine ⟨?_, by simp [h4]⟩
        rw [List.flatMap_cons, hw, List.append_assoc, ← h3, h1]

theorem flatMap_bytes_length (ws : List Word64) :
    (ws.flatMap fun w => bytesOfNat 8 w.toNat).length = 8 * ws.length := by
  induction ws with
  | nil => rfl
  | cons w ws ih => simp only [List.flatMap_cons, List.length_append, bytesOfNat_length, ih, List.length_cons]; omega

/-- There are not enough bytes for the operand words exactly where taking them fails. -/
theorem takeOps_none {n : Nat} {bs : List Byte} : takeOps n bs = none ↔ bs.length < 8 * n := by
  induction n generalizing bs with
  | zero => simp [takeOps]
  | succ n ih =>
    rw [takeOps]
    cases e : takeBytes 8 bs with
    | none => have := takeBytes_none.1 e; simp; omega
    | some p =>
      obtain ⟨h1, h2⟩ := takeBytes_some (t := p.1) (r := p.2) e
      have hl : bs.length = 8 + p.2.length := by rw [h1, List.length_append, h2]
      cases e' : takeOps n p.2 with
      | none => have := ih.1 e'; simp only [e', true_iff]; omega
      | some q =>
        have hn : ¬ takeOps n p.2 = none := by rw [e']; simp
        rw [ih] at hn
        simp only [e', reduceCtorEq, false_iff]
        omega

/-! ## Fields of a command word (R111) -/

theorem mkCmd_toNat {op unit nops : Nat} (sel : BitVec 8) (ho : op < 256) (hu : unit < 256) (hn : nops < 256) :
    (mkCmd op unit sel nops).toNat = op * 2 ^ 24 + unit * 2 ^ 16 + sel.toNat * 2 ^ 8 + nops := by
  have := sel.isLt
  rw [mkCmd, BitVec.toNat_ofNat]
  omega

theorem cmdOp_mkCmd {op unit nops : Nat} (sel : BitVec 8) (ho : op < 256) (hu : unit < 256) (hn : nops < 256) :
    cmdOp (mkCmd op unit sel nops) = op := by
  have := sel.isLt
  rw [cmdOp, mkCmd_toNat sel ho hu hn]
  omega

theorem cmdUnit_mkCmd {op unit nops : Nat} (sel : BitVec 8) (ho : op < 256) (hu : unit < 256) (hn : nops < 256) :
    cmdUnit (mkCmd op unit sel nops) = unit := by
  have := sel.isLt
  rw [cmdUnit, mkCmd_toNat sel ho hu hn]
  omega

theorem cmdSel_mkCmd {op unit nops : Nat} (sel : BitVec 8) (ho : op < 256) (hu : unit < 256) (hn : nops < 256) :
    cmdSel (mkCmd op unit sel nops) = sel := by
  have := sel.isLt
  apply BitVec.eq_of_toNat_eq
  rw [cmdSel, mkCmd_toNat sel ho hu hn, BitVec.toNat_ofNat]
  omega

theorem cmdNops_mkCmd {op unit nops : Nat} (sel : BitVec 8) (ho : op < 256) (hu : unit < 256) (hn : nops < 256) :
    cmdNops (mkCmd op unit sel nops) = nops := by
  rw [cmdNops, mkCmd_toNat sel ho hu hn]
  omega

/-- A command word is the word of its four fields. -/
theorem mkCmd_fields (c : Word32) : mkCmd (cmdOp c) (cmdUnit c) (cmdSel c) (cmdNops c) = c := by
  have := c.isLt
  apply BitVec.eq_of_toNat_eq
  rw [mkCmd, BitVec.toNat_ofNat, cmdOp, cmdUnit, cmdSel, cmdNops, BitVec.toNat_ofNat]
  omega

/-! ## Codes -/

theorem opCode_lt (op : OpCode) : opCode op < 256 := by cases op <;> decide

theorem unitCode_lt (u : UnitId) : unitCode u < 256 := by cases u <;> decide

@[simp] theorem opOfCode?_opCode (op : OpCode) : opOfCode? (opCode op) = some op := by cases op <;> rfl

@[simp] theorem unitOfCode?_unitCode (u : UnitId) : unitOfCode? (unitCode u) = some u := by cases u <;> rfl

theorem opCode_of_opOfCode? {c : Nat} {op : OpCode} (h : opOfCode? c = some op) : c = opCode op := by
  unfold opOfCode? at h
  split at h <;> first | (cases h; rfl) | cases h

theorem unitCode_of_unitOfCode? {c : Nat} {u : UnitId} (h : unitOfCode? c = some u) : c = unitCode u := by
  unfold unitOfCode? at h
  split at h <;> first | (cases h; rfl) | cases h

/-! ## Requests the encoder writes -/

theorem decodeRequest_of {r : Request} {op : OpCode} {u : UnitId} (ho : opOfCode? (cmdOp r.cmd) = some op)
    (hu : unitOfCode? (cmdUnit r.cmd) = some u) : decodeRequest r = decodePair op u r := by
  unfold decodeRequest
  rw [ho]
  show (match unitOfCode? (cmdUnit r.cmd) with | none => _ | some u => decodePair op u r) = _
  rw [hu]

theorem mkRequest_cmd (op : OpCode) (u : UnitId) (sel : BitVec 8) (ops : List Word64) :
    (mkRequest op u sel ops).cmd = mkCmd (opCode op) (unitCode u) sel ops.length := rfl

@[simp] theorem mkRequest_ops (op : OpCode) (u : UnitId) (sel : BitVec 8) (ops : List Word64) :
    (mkRequest op u sel ops).ops = ops := rfl

/-- The decoder finds the operation and the unit that the request was made of. -/
theorem decodeRequest_mkRequest (op : OpCode) (u : UnitId) (sel : BitVec 8) {ops : List Word64}
    (h : ops.length < 256) : decodeRequest (mkRequest op u sel ops) = decodePair op u (mkRequest op u sel ops) := by
  apply decodeRequest_of
  · rw [mkRequest_cmd, cmdOp_mkCmd sel (opCode_lt op) (unitCode_lt u) h, opOfCode?_opCode]
  · rw [mkRequest_cmd, cmdUnit_mkCmd sel (opCode_lt op) (unitCode_lt u) h, unitOfCode?_unitCode]

theorem cmdSel_mkRequest (op : OpCode) (u : UnitId) (sel : BitVec 8) {ops : List Word64} (h : ops.length < 256) :
    cmdSel (mkRequest op u sel ops).cmd = sel := by
  rw [mkRequest_cmd, cmdSel_mkCmd sel (opCode_lt op) (unitCode_lt u) h]

theorem cmdNops_mkRequest (op : OpCode) (u : UnitId) (sel : BitVec 8) {ops : List Word64} (h : ops.length < 256) :
    cmdNops (mkRequest op u sel ops).cmd = ops.length := by
  rw [mkRequest_cmd, cmdNops_mkCmd sel (opCode_lt op) (unitCode_lt u) h]

/-! ## Pseudo-commands (30_encoding.md R126) -/

/-- What the block reads from the three requests of BOOT, for every unit. -/
theorem expandBoot_decodes (u : UnitId) (sr : F64) : (expandBoot u sr).map decodeRequest =
    [decodePair .reset u (mkRequest .reset u 0 [sr]), decodePair .pload u (mkRequest .pload u 0 []),
      decodePair .setp u (mkRequest .setp u 0 [])] := by
  simp only [expandBoot, List.map_cons, List.map_nil]
  rw [decodeRequest_mkRequest _ _ _ (by simp), decodeRequest_mkRequest _ _ _ (by simp),
    decodeRequest_mkRequest _ _ _ (by simp)]

/-- What the block reads from the requests of SET, for every unit and any fields. -/
theorem expandSet_decodes (u : UnitId) (fields : List (BitVec 8 × Word64)) : (expandSet u fields).map decodeRequest =
    decodePair .pload u (mkRequest .pload u 0 []) ::
      (fields.map (fun f => decodePair .pstage u (mkRequest .pstage u f.1 [f.2])) ++
        [decodePair .setp u (mkRequest .setp u 0 [])]) := by
  simp only [expandSet, List.map_cons, List.map_append, List.map_map, List.map_nil]
  rw [decodeRequest_mkRequest _ _ _ (by simp), decodeRequest_mkRequest _ _ _ (by simp)]
  congr 2
  exact List.map_congr_left fun f _ => decodeRequest_mkRequest _ _ _ (by simp)

end Sys2Proof
end

