-- ==== Sys2Proof/Laws/Memory.lean ====
section
/-! SUPPORT. The delay memories: reading after writing, and the canonical form kept by every operation
(spec/20_memory.md R81 to R85). -/

namespace Sys2Proof.Machine

theorem Memory.wfFrom_mono {len i j : Nat} {m : Memory} (hij : i ≤ j)
    (h : Memory.wfFrom len j m = true) : Memory.wfFrom len i m = true := by
  cases m with
  | nil => rfl
  | cons c m =>
    simp only [Memory.wfFrom, Bool.and_eq_true, decide_eq_true_eq] at h ⊢
    exact ⟨⟨⟨by omega, h.1.1.2⟩, h.1.2⟩, h.2⟩

/-- A word below every listed index reads `+0.0`. -/
theorem Memory.read_below {len i j : Nat} {m : Memory} (h : Memory.wfFrom len j m = true) (hi : i < j) :
    Memory.read m i = F64.zero := by
  induction m generalizing j with
  | nil => rfl
  | cons c m ih =>
    simp only [Memory.wfFrom, Bool.and_eq_true, decide_eq_true_eq] at h
    have hc : i ≠ c.1 := by omega
    simp only [Memory.read, hc, if_false]
    exact ih h.2 (by omega)

theorem Memory.wfFrom_write {len lo : Nat} {m : Memory} {i : Nat} {v : F64}
    (h : Memory.wfFrom len lo m = true) (hi : i < len) (hlo : lo ≤ i) :
    Memory.wfFrom len lo (Memory.write m i v) = true := by
  induction m generalizing lo with
  | nil =>
    simp only [Memory.write]
    split
    · rfl
    · next hv => simp [Memory.wfFrom, hlo, hi, hv]
  | cons c m ih =>
    obtain ⟨j, u⟩ := c
    simp only [Memory.wfFrom, Bool.and_eq_true, decide_eq_true_eq] at h
    obtain ⟨⟨⟨h1, h2⟩, h3⟩, h4⟩ := h
    simp only [Memory.write]
    split
    · next hij =>
      split
      · simp [Memory.wfFrom, h1, h2, h3, h4]
      · next hv =>
        have : i + 1 ≤ j := hij
        simp [Memory.wfFrom, hlo, hi, hv, this, h2, h3, h4]
    · split
      · next hij hij' =>
        subst hij'
        split
        · exact Memory.wfFrom_mono (by omega) h4
        · next hv => simp [Memory.wfFrom, hlo, hi, hv, h4]
      · next hij hij' =>
        have hji : j + 1 ≤ i := by omega
        simp [Memory.wfFrom, h1, h2, h3, ih h4 hji]

/-- A write inside the memory keeps the canonical form. -/
theorem Memory.wf_write {len : Nat} {m : Memory} {i : Nat} {v : F64} (h : Memory.wf len m = true) (hi : i < len) :
    Memory.wf len (Memory.write m i v) = true :=
  Memory.wfFrom_write h hi (Nat.zero_le _)

theorem Memory.read_write_from {len lo : Nat} {m : Memory} (h : Memory.wfFrom len lo m = true)
    (i j : Nat) (v : F64) : Memory.read (Memory.write m i v) j = if j = i then v else Memory.read m j := by
  induction m generalizing lo with
  | nil =>
    by_cases hv : v = F64.zero <;> by_cases hj : j = i <;> simp [Memory.write, Memory.read, hv, hj]
  | cons c m ih =>
    obtain ⟨k, u⟩ := c
    simp only [Memory.wfFrom, Bool.and_eq_true, decide_eq_true_eq] at h
    obtain ⟨⟨⟨_, _⟩, _⟩, h4⟩ := h
    simp only [Memory.write]
    split
    · next hik =>
      split
      · next hv =>
        by_cases hj : j = i
        · subst hj
          have hjk : j ≠ k := by omega
          simp [Memory.read, hv, hjk, Memory.read_below h4 (by omega : j < k + 1)]
        · simp [hj]
      · by_cases hj : j = i <;> simp [Memory.read, hj]
    · split
      · next hik hik' =>
        subst hik'
        split
        · next hv =>
          by_cases hj : j = i
          · subst hj; simp [hv, Memory.read_below h4 (Nat.lt_succ_self _)]
          · simp [Memory.read, hj]
        · by_cases hj : j = i <;> simp [Memory.read, hj]
      · next hik hik' =>
        by_cases hjk : j = k
        · subst hjk
          have : j ≠ i := fun e => hik' e.symm
          simp [Memory.read, this]
        · simp [Memory.read, hjk, ih h4]

/-- Reading after writing (20_memory.md R81). -/
theorem Memory.read_write {len : Nat} {m : Memory} (h : Memory.wf len m = true) (i j : Nat) (v : F64) :
    Memory.read (Memory.write m i v) j = if j = i then v else Memory.read m j :=
  Memory.read_write_from h i j v

@[simp] theorem Memory.wf_nil (len : Nat) : Memory.wf len [] = true := rfl

@[simp] theorem Memory.read_nil (i : Nat) : Memory.read [] i = F64.zero := rfl

/-- An index and a mask stay below the mask's successor (20_memory.md R82). -/
theorem andMask_le (k : Int) (mask : Nat) : andMask k mask ≤ mask := by
  cases k with
  | ofNat n => exact Nat.and_le_right
  | negSucc n =>
    have h : mask ^^^ (mask &&& n) = mask &&& (mask ^^^ n) := by
      apply Nat.eq_of_testBit_eq
      intro i
      simp only [Nat.testBit_and, Nat.testBit_xor]
      cases mask.testBit i <;> cases n.testBit i <;> rfl
    simp only [andMask, h]
    exact Nat.and_le_left

end Sys2Proof.Machine
end

