-- ==== Sys2Proof/Laws/DelayBuffer.lean ====
section
/-! SUPPORT. What each operation of a delay buffer leaves (spec/41_delay_buffer.md R190 to R196): its fields, and the
well-formedness of 10_state.md R45, which every one of them keeps. -/

namespace Sys2Proof.Machine

@[simp] theorem fdbWrite_alloc (b : Fdb) (x : F64) : (fdbWrite b x).alloc = b.alloc := rfl
@[simp] theorem fdbWrite_len (b : Fdb) (x : F64) : (fdbWrite b x).len = b.len := rfl
@[simp] theorem fdbWrite_mask (b : Fdb) (x : F64) : (fdbWrite b x).mask = b.mask := rfl
@[simp] theorem fdbWrite_interp (b : Fdb) (x : F64) : (fdbWrite b x).interp = b.interp := rfl
@[simp] theorem fdbWrite_mem (b : Fdb) (x : F64) : (fdbWrite b x).mem = Memory.write b.mem b.w x := rfl

/-- The length of a created buffer is a power of two, at least 1 (41_delay_buffer.md R190). -/
theorem pow2ceil_eq_pow (n : Nat) : ∃ k, pow2ceil n = 2 ^ k := by
  unfold pow2ceil
  split
  · exact ⟨0, rfl⟩
  · exact ⟨_, rfl⟩

/-- Zero and one words need the same length (40_common.md R161 asks for `n`, 41_delay_buffer.md R190 makes `max(n, 1)`). -/
theorem pow2ceil_max_one (n : Nat) : pow2ceil (max n 1) = pow2ceil n := by
  rcases n with _ | n
  · rfl
  · rw [Nat.max_eq_left (Nat.succ_le_succ (Nat.zero_le n))]

/-- A write keeps the buffer well formed. -/
theorem Fdb.Ok.write {l : Nat} {b : Fdb} (h : b.Ok l) (x : F64) : (fdbWrite b x).Ok l where
  length := h.length
  mask := h.mask
  cursor := by
    have hle := andMask_le ((b.w : Int) + 1) b.mask
    have hc := h.cursor
    rw [h.mask] at hle
    show andMask ((b.w : Int) + 1) b.mask < b.len
    rw [h.mask]
    omega
  memory := Memory.wf_write h.memory h.cursor

/-- Setting the switch keeps it. -/
theorem Fdb.Ok.setInterp {l : Nat} {b : Fdb} (h : b.Ok l) (v : Bool) : ({ b with interp := v } : Fdb).Ok l :=
  ⟨h.length, h.mask, h.cursor, h.memory⟩

/-- A flush keeps it. -/
theorem Fdb.Ok.flush {l : Nat} {b : Fdb} (h : b.Ok l) : (fdbFlush b).Ok l := ⟨h.length, h.mask, h.cursor, rfl⟩

/-- A created buffer is well formed where its length is within the limit (20_memory.md R86). -/
theorem freshBuffer_ok {l n : Nat} (interp : Bool) (h : lengthFits l n = true) : (freshBuffer interp n).Ok l := by
  obtain ⟨k, hk⟩ := pow2ceil_eq_pow n
  have hle : pow2ceil n ≤ 2 ^ l := of_decide_eq_true h
  have e : (freshBuffer interp n).len = 2 ^ k := by rw [← hk]; exact pow2ceil_max_one n
  refine ⟨⟨k, ?_, e⟩, rfl, ?_, rfl⟩
  · rw [hk] at hle
    exact (Nat.pow_le_pow_iff_right (by decide)).1 hle
  · rw [e]; exact Nat.two_pow_pos k

/-- The length that a line of `ms` milliseconds asks for is within the limit where `fits` says so (40_common.md
R161). -/
theorem fits_lengthFits {l n : Nat} {sr ms : F64} (h : fits l sr ms = true) (hn : need sr ms = some n) :
    lengthFits l n = true := by
  unfold fits at h
  rw [hn] at h
  exact h

/-- A created line has a well-formed buffer. -/
theorem LineCreated.buffer_ok {l : Nat} {d d' : SDelay} {sr ms : F64} (h : LineCreated d sr ms d')
    (hf : fits l sr ms = true) : d'.buf.Ok l := by
  obtain ⟨n, _, hn, _, rfl⟩ := h
  exact freshBuffer_ok _ (fits_lengthFits hf hn)

/-- A line's step keeps its buffer well formed. -/
theorem LineStep.buffer_ok {l : Nat} {d d' : SDelay} {x y : F64} (h : LineStep d x y d') (hd : d.buf.Ok l) :
    d'.buf.Ok l := by
  unfold LineStep at h
  split at h
  · rw [h.2]; exact hd
  · rw [h.2]; exact hd.write x

/-- So does a new delay time. -/
theorem LineSet.buffer_ok {l : Nat} {d d' : SDelay} {r : SDelayRec} (h : LineSet d r d') (hd : d.buf.Ok l) :
    d'.buf.Ok l := by
  obtain ⟨_, _, rfl⟩ := h
  exact hd.setInterp _

end Sys2Proof.Machine
end

