-- ==== Sys2Proof/Laws/Effects.lean ====
section
/-! SUPPORT. How a computation of the datapath runs: `FpM.apply` over the monad's own operations, and what each
shared operation can do to the effects. -/

namespace Sys2Proof.Machine

@[simp] theorem FpM.apply_pure {α : Type} (a : α) (fx : Fx) : FpM.apply (pure a) fx = (a, fx) := rfl

@[simp] theorem FpM.apply_bind {α β : Type} (m : FpM α) (f : α → FpM β) (fx : Fx) :
    FpM.apply (m >>= f) fx = FpM.apply (f (FpM.apply m fx).1) (FpM.apply m fx).2 := rfl

@[simp] theorem FpM.apply_map {α β : Type} (m : FpM α) (f : α → β) (fx : Fx) :
    FpM.apply (f <$> m) fx = (f (FpM.apply m fx).1, (FpM.apply m fx).2) := rfl

theorem FpM.apply_ite {α : Type} (c : Prop) [Decidable c] (m m' : FpM α) (fx : Fx) :
    FpM.apply (if c then m else m') fx = if c then FpM.apply m fx else FpM.apply m' fx := by
  split <;> rfl

@[simp] theorem takeFree_apply {α : Type} (f : Nat → α) (fx : Fx) :
    FpM.apply (takeFree f) fx = (f fx.draws, { fx with draws := fx.draws + 1 }) := rfl

@[simp] theorem draw_apply (fx : Fx) :
    FpM.apply draw fx = (Config.draw fx.draws, { fx with draws := fx.draws + 1 }) := rfl

@[simp] theorem ofOp_some_apply (v : F64) (fx : Fx) : FpM.apply (ofOp (some v)) fx = (v, fx) := rfl

@[simp] theorem ofOp_none_apply (fx : Fx) :
    FpM.apply (ofOp none) fx = (nan64 fx.draws, { fx with draws := fx.draws + 1 }) := rfl

@[simp] theorem ofOp32_some_apply (v : F32) (fx : Fx) : FpM.apply (ofOp32 (some v)) fx = (v, fx) := rfl

@[simp] theorem ofOp32_none_apply (fx : Fx) :
    FpM.apply (ofOp32 none) fx = (nan32 fx.draws, { fx with draws := fx.draws + 1 }) := rfl

@[simp] theorem setUf_apply (fx : Fx) : FpM.apply setUf fx = ((), { fx with uf := true }) := rfl

/-- The computation leaves UF alone and takes no free value back. -/
def FpM.quiet {α : Type} (m : FpM α) : Prop :=
  ∀ fx, (m.apply fx).2.uf = fx.uf ∧ fx.draws ≤ (m.apply fx).2.draws

/-- The computation takes no free value back and never clears UF. -/
def FpM.grows {α : Type} (m : FpM α) : Prop :=
  ∀ fx, (fx.uf = true → (m.apply fx).2.uf = true) ∧ fx.draws ≤ (m.apply fx).2.draws

theorem quiet_pure {α : Type} (a : α) : FpM.quiet (pure a : FpM α) := fun _ => ⟨rfl, Nat.le_refl _⟩

theorem quiet_bind {α β : Type} {m : FpM α} {f : α → FpM β} (hm : m.quiet) (hf : ∀ a, (f a).quiet) :
    (m >>= f).quiet := fun fx =>
  ⟨((hf _ _).1).trans (hm fx).1, Nat.le_trans (hm fx).2 (hf _ _).2⟩

theorem quiet_ite {α : Type} {c : Prop} [Decidable c] {m m' : FpM α} (hm : m.quiet) (hm' : m'.quiet) :
    (if c then m else m').quiet := by
  split <;> assumption

theorem quiet_takeFree {α : Type} (f : Nat → α) : (takeFree f).quiet := fun _ => ⟨rfl, Nat.le_succ _⟩

theorem quiet_ofOp (r : Option F64) : (ofOp r).quiet := by
  cases r with
  | none => exact quiet_takeFree _
  | some v => exact quiet_pure v

theorem quiet_ofOp32 (r : Option F32) : (ofOp32 r).quiet := by
  cases r with
  | none => exact quiet_takeFree _
  | some v => exact quiet_pure v

theorem quiet_fadd (a b : F64) : (fadd a b).quiet := quiet_ofOp _
theorem quiet_fsub (a b : F64) : (fsub a b).quiet := quiet_ofOp _
theorem quiet_fmul (a b : F64) : (fmul a b).quiet := quiet_ofOp _
theorem quiet_fdiv (a b : F64) : (fdiv a b).quiet := quiet_ofOp _
theorem quiet_widen (s : F32) : (widen s).quiet := quiet_ofOp _
theorem quiet_narrow (v : F64) : (narrow v).quiet := quiet_ofOp32 _

theorem quiet_fpow (x y : F64) : (fpow x y).quiet := quiet_ite (quiet_pure _) (quiet_ofOp _)

theorem quiet_ftan (x : F64) : (ftan x).quiet := quiet_ite (quiet_pure _) (quiet_ofOp _)

theorem quiet_fpick (w : Bool) (a b : F64) : (fpick w a b).quiet := by
  unfold fpick
  exact quiet_ite (quiet_ofOp _) <| quiet_ite (quiet_pure _) <| quiet_ite (quiet_pure _) <|
    quiet_ite (quiet_bind (quiet_takeFree _) fun _ => quiet_pure _) (quiet_pure _)

theorem quiet_fmin (a b : F64) : (fmin a b).quiet := quiet_fpick _ _ _
theorem quiet_fmax (a b : F64) : (fmax a b).quiet := quiet_fpick _ _ _

theorem quiet_bipolarToUnipolar (v : F64) : (bipolarToUnipolar v).quiet :=
  quiet_bind (quiet_fmul _ _) fun _ => quiet_fadd _ _

theorem quiet_clamp01 (u : F64) : (clamp01 u).quiet :=
  quiet_ite (quiet_pure _) <| quiet_bind (quiet_fmin _ _) fun _ => quiet_fmax _ _

theorem quiet_lerp (y1 y2 f : F64) : (lerp y1 y2 f).quiet :=
  quiet_ite (quiet_pure _) <| quiet_bind (quiet_fmul _ _) fun _ => quiet_bind (quiet_fsub _ _) fun _ =>
    quiet_bind (quiet_fmul _ _) fun _ => quiet_fadd _ _

theorem quiet_dbToGain (d : F64) : (dbToGain d).quiet := quiet_bind (quiet_fdiv _ _) fun _ => quiet_fpow _ _

theorem FpM.quiet.grows {α : Type} {m : FpM α} (h : m.quiet) : m.grows := fun fx =>
  ⟨fun e => (h fx).1.trans e, (h fx).2⟩

theorem grows_bind {α β : Type} {m : FpM α} {f : α → FpM β} (hm : m.grows) (hf : ∀ a, (f a).grows) :
    (m >>= f).grows := fun fx =>
  ⟨fun e => (hf _ _).1 ((hm fx).1 e), Nat.le_trans (hm fx).2 (hf _ _).2⟩

theorem grows_ite {α : Type} {c : Prop} [Decidable c] {m m' : FpM α} (hm : m.grows) (hm' : m'.grows) :
    (if c then m else m').grows := by
  split <;> assumption

/-- What a flush can do (40_common.md R153): replace a nonzero value by `+0.0` and set UF, or nothing. -/
theorem ftz_cases (thr v : F64) (fx : Fx) :
    FpM.apply (ftz thr v) fx = (F64.zero, { fx with uf := true }) ∨ FpM.apply (ftz thr v) fx = (v, fx) := by
  unfold ftz
  split
  · exact .inl rfl
  · exact .inr rfl

theorem grows_ftz (thr v : F64) : (ftz thr v).grows := fun fx => by
  obtain h | h := ftz_cases thr v fx <;> simp [h]

theorem grows_ftzOnepole (p : Params) (v : F64) : (ftzOnepole p v).grows :=
  grows_ite (grows_ftz _ _) (quiet_pure _).grows

end Sys2Proof.Machine
end

