-- ==== Sys2Proof/Laws/Float.lean ====
section
/-! SUPPORT. A produced NaN is a NaN, whatever its free sign and payload (spec/40_common.md R158). -/

namespace Sys2Proof.Machine

theorem F64.isNaN_ofMag (s : Bool) (k : Nat) (hk : 0 < k) (hk' : k < 2 ^ 52) :
    F64.isNaN (F64.ofMag s (Fmt.b64.inf + k)) = true := by
  have e : Fmt.b64.inf = 2047 * 2 ^ 52 := by decide
  have hv : (F64.ofMag s (Fmt.b64.inf + k)).toNat = (if s then 2 ^ 63 else 0) + (2047 * 2 ^ 52 + k) := by
    simp only [F64.ofMag, BitVec.toNat_ofNat, e]
    cases s <;> simp <;> omega
  have hexp : F64.expo (F64.ofMag s (Fmt.b64.inf + k)) = 2047 := by
    simp only [F64.expo, hv]; cases s <;> simp <;> omega
  have hfrac : F64.frac (F64.ofMag s (Fmt.b64.inf + k)) = k := by
    simp only [F64.frac, hv]; cases s <;> simp <;> omega
  simp only [F64.isNaN, hexp, hfrac]
  simp; omega

theorem isNaN_nan64 (n : Nat) : F64.isNaN (nan64 n) = true :=
  F64.isNaN_ofMag _ _ (Nat.succ_pos _) (by have := (Config.nanPayload64 n).isLt; omega)

theorem isNaN_nan32 (n : Nat) : F32.isNaN (nan32 n) = true := by
  have hp := (Config.nanPayload32 n).isLt
  have e : Fmt.b32.inf = 255 * 2 ^ 23 := by decide
  have hv : (nan32 n).toNat
      = (if Config.nanSign n then 2 ^ 31 else 0) + (255 * 2 ^ 23 + ((Config.nanPayload32 n).val + 1)) := by
    simp only [nan32, BitVec.toNat_ofNat, e]
    split <;> omega
  have hexp : F32.expo (nan32 n) = 255 := by
    simp only [F32.expo, hv]; split <;> omega
  have hfrac : F32.frac (nan32 n) = (Config.nanPayload32 n).val + 1 := by
    simp only [F32.frac, hv]; split <;> omega
  simp [F32.isNaN, hexp, hfrac]

end Sys2Proof.Machine
end

