-- ==== Sys2Proof/Laws/Specs.lean ====
section
/-! SUPPORT. One lemma per procedure of the datapath: every value it can give meets the relation that Safety.lean reads
off the spec's rule, whatever the free values are. -/

namespace Sys2Proof.Machine

/-- Every run of `m` gives a value and a flush indicator that meet `P`, sets UF only by that indicator, and takes
no free value back. -/
def FpM.Spec {α : Type} (m : FpM α) (P : α → Bool → Prop) : Prop :=
  ∀ fx, ∃ uf, P (m.apply fx).1 uf ∧ (m.apply fx).2.uf = (fx.uf || uf) ∧ fx.draws ≤ (m.apply fx).2.draws

/-- Every run of `m` gives a value that meets `P` and flushes nothing. -/
def FpM.Quiet {α : Type} (m : FpM α) (P : α → Prop) : Prop := m.Spec fun a uf => P a ∧ uf = false

theorem spec_pure {α : Type} {a : α} {P : α → Bool → Prop} (h : P a false) : (pure a : FpM α).Spec P :=
  fun _ => ⟨false, h, (Bool.or_false _).symm, Nat.le_refl _⟩

theorem spec_bind {α β : Type} {m : FpM α} {f : α → FpM β} {P : α → Bool → Prop} {Q : β → Bool → Prop}
    (hm : m.Spec P) (hf : ∀ a u, P a u → (f a).Spec fun b v => Q b (u || v)) : (m >>= f).Spec Q := fun fx => by
  obtain ⟨u, hp, hu, hd⟩ := hm fx
  obtain ⟨v, hq, hv, hd'⟩ := hf _ u hp (m.apply fx).2
  exact ⟨u || v, hq, by rw [FpM.apply_bind, hv, hu, Bool.or_assoc], Nat.le_trans hd hd'⟩

theorem spec_mono {α : Type} {m : FpM α} {P Q : α → Bool → Prop} (hm : m.Spec P) (h : ∀ a u, P a u → Q a u) :
    m.Spec Q := fun fx =>
  let ⟨u, hp, hu, hd⟩ := hm fx
  ⟨u, h _ _ hp, hu, hd⟩

theorem quiet_step {α β : Type} {m : FpM α} {f : α → FpM β} {P : α → Prop} {Q : β → Bool → Prop}
    (hm : m.Quiet P) (hf : ∀ a, P a → (f a).Spec Q) : (m >>= f).Spec Q :=
  spec_bind hm fun a u h => by
    obtain ⟨hp, rfl⟩ := h
    simpa only [Bool.false_or] using hf a hp

theorem quiet_mono {α : Type} {m : FpM α} {P Q : α → Prop} (hm : m.Quiet P) (h : ∀ a, P a → Q a) : m.Quiet Q :=
  spec_mono hm fun a _ hp => ⟨h a hp.1, hp.2⟩

theorem quiet_val {α : Type} {a : α} {P : α → Prop} (h : P a) : (pure a : FpM α).Quiet P := spec_pure ⟨h, rfl⟩

/-! ## Arithmetic -/

theorem takeFree_spec {α : Type} (f : Nat → α) : (takeFree f).Quiet fun v => ∃ n, v = f n := fun fx =>
  ⟨false, ⟨⟨fx.draws, rfl⟩, rfl⟩, by simp, by simp⟩

theorem ofOp_spec (r : Option F64) : (ofOp r).Quiet (Gives r) := by
  cases r with
  | some v => exact quiet_val rfl
  | none => exact quiet_mono (takeFree_spec nan64) fun v ⟨n, h⟩ => h ▸ isNaN_nan64 n

theorem ofOp32_spec (r : Option F32) : (ofOp32 r).Quiet (Gives32 r) := by
  cases r with
  | some v => exact quiet_val rfl
  | none => exact quiet_mono (takeFree_spec nan32) fun v ⟨n, h⟩ => h ▸ isNaN_nan32 n

theorem fadd_spec (a b : F64) : (fadd a b).Quiet (Gives (F64.add? a b)) := ofOp_spec _
theorem fsub_spec (a b : F64) : (fsub a b).Quiet (Gives (F64.sub? a b)) := ofOp_spec _
theorem fmul_spec (a b : F64) : (fmul a b).Quiet (Gives (F64.mul? a b)) := ofOp_spec _
theorem fdiv_spec (a b : F64) : (fdiv a b).Quiet (Gives (F64.div? a b)) := ofOp_spec _
theorem widen_spec (s : F32) : (widen s).Quiet (Gives (F32.toF64? s)) := ofOp_spec _
theorem narrow_spec (v : F64) : (narrow v).Quiet (Gives32 (F64.toF32? v)) := ofOp32_spec _

theorem fpow_spec (x y : F64) : (fpow x y).Quiet (PowGives x y) := by
  unfold fpow PowGives
  split
  · exact quiet_val rfl
  · exact ofOp_spec _

theorem ftan_spec (x : F64) : (ftan x).Quiet (TanGives x) := by
  unfold ftan TanGives
  split
  · exact quiet_val rfl
  · exact ofOp_spec _

theorem F64.eq_of_not_lt {a b : F64} (ha : F64.isNaN a = false) (hb : F64.isNaN b = false)
    (h : F64.lt a b = false) (h' : F64.lt b a = false) : F64.eq a b = true := by
  simp only [F64.lt, F64.eq, ha, hb, Bool.not_false, Bool.true_and, decide_eq_true_eq, decide_eq_false_iff_not] at *
  omega

theorem F64.lt_of_eq {a b : F64} (h : F64.eq a b = true) : F64.lt a b = false ∧ F64.lt b a = false := by
  simp only [F64.lt, F64.eq, Bool.and_eq_true, Bool.not_eq_true', decide_eq_true_eq] at *
  simp only [h.1.1, h.1.2, h.2, Bool.not_false, Bool.true_and]
  simp

theorem F64.lt_asymm {a b : F64} (h : F64.lt a b = true) : F64.lt b a = false := by
  simp only [F64.lt, Bool.and_eq_true, Bool.not_eq_true', decide_eq_true_eq] at *
  simp only [h.1.1, h.1.2, Bool.not_false, Bool.true_and, decide_eq_false_iff_not]
  omega

/-- What minNum and maxNum give, `w` saying that the first operand wins. -/
theorem fpick_spec (w : Bool) (a b : F64) (P : F64 → Prop)
    (hn : F64.isNaN a = true → F64.isNaN b = true → ∀ v, F64.isNaN v = true → P v)
    (ha : F64.isNaN a = true → F64.isNaN b = false → P b) (hb : F64.isNaN a = false → F64.isNaN b = true → P a)
    (he : F64.isNaN a = false → F64.isNaN b = false → F64.eq a b = true → P a ∧ P b)
    (hw : F64.isNaN a = false → F64.isNaN b = false → (F64.eq a b = false ∨ a = b) → P (if w then a else b)) :
    (fpick w a b).Quiet P := by
  unfold fpick
  cases na : F64.isNaN a <;> cases nb : F64.isNaN b <;>
    simp only [Bool.false_and, Bool.and_false, Bool.and_self, if_true, if_false, Bool.false_eq_true]
  · split
    · next h =>
      simp only [Bool.and_eq_true, bne_iff_ne] at h
      have := he na nb h.1
      refine quiet_step (takeFree_spec _) fun c _ => ?_
      cases c
      · exact quiet_val this.2
      · exact quiet_val this.1
    · next h =>
      refine quiet_val (hw na nb ?_)
      simp only [Bool.and_eq_true, bne_iff_ne, not_and, not_not] at h
      cases e : F64.eq a b
      · exact .inl rfl
      · exact .inr (h e)
  · exact quiet_val (hb na nb)
  · exact quiet_val (ha na nb)
  · exact quiet_mono (ofOp_spec none) fun v h => hn na nb v h

theorem fmin_spec (a b : F64) : (fmin a b).Quiet (MinGives a b) := by
  refine fpick_spec _ a b _ ?_ ?_ ?_ ?_ ?_ <;> intro na nb
  · intro v h; simp [MinGives, na, nb, h]
  · simp [MinGives, na, nb]
  · simp [MinGives, na, nb]
  · intro h; simp [MinGives, na, nb, F64.lt_of_eq h]
  · intro h
    simp only [MinGives, na, nb, Bool.false_eq_true, if_false]
    cases l : F64.lt a b <;> simp only [Bool.false_eq_true, if_false, if_true]
    cases l' : F64.lt b a <;> simp

theorem fmax_spec (a b : F64) : (fmax a b).Quiet (MaxGives a b) := by
  refine fpick_spec _ a b _ ?_ ?_ ?_ ?_ ?_ <;> intro na nb
  · intro v h; simp [MaxGives, na, nb, h]
  · simp [MaxGives, na, nb]
  · simp [MaxGives, na, nb]
  · intro h; simp [MaxGives, na, nb, F64.lt_of_eq h]
  · intro h
    simp only [MaxGives, na, nb, Bool.false_eq_true, if_false]
    cases l : F64.lt b a <;> simp only [Bool.false_eq_true, if_false, if_true]
    cases l' : F64.lt a b <;> simp

theorem clamp01_spec (u : F64) : (clamp01 u).Quiet (ClampGives u) := by
  unfold clamp01 ClampGives
  split
  · exact quiet_val (by cases Config.clampNaNIsZero <;> simp)
  · exact quiet_step (fmin_spec _ _) fun lo h1 => quiet_mono (fmax_spec _ _) fun _ h2 => ⟨lo, h1, h2⟩

theorem dbToGain_spec (d : F64) : (dbToGain d).Quiet (GainGives d) :=
  quiet_step (fdiv_spec _ _) fun x hx => quiet_mono (fpow_spec _ _) fun _ h => ⟨x, hx, h⟩

theorem lerp_spec (y1 y2 f : F64) : (lerp y1 y2 f).Quiet (LerpGives y1 y2 f) := by
  unfold lerp LerpGives
  split
  · exact quiet_val rfl
  · exact quiet_step (fmul_spec _ _) fun a ha => quiet_step (fsub_spec _ _) fun g hg =>
      quiet_step (fmul_spec _ _) fun b hb => quiet_mono (fadd_spec _ _) fun v hv => ⟨a, g, b, ha, hg, hb, hv⟩

theorem ftz_spec (thr v : F64) : (ftz thr v).Spec fun y uf => y = flushOf thr v ∧ uf = flushed thr v := fun fx => by
  unfold ftz
  cases h : flushed thr v <;> have h' := h <;> unfold flushed at h' <;> simp only [h', flushOf, h]
  · exact ⟨false, ⟨rfl, rfl⟩, by simp, by simp⟩
  · exact ⟨true, ⟨rfl, rfl⟩, by simp, by simp⟩

theorem ftzOnepole_spec (p : Params) (v : F64) : (ftzOnepole p v).Spec fun y uf => OnePoleFlush p v y uf := by
  unfold ftzOnepole OnePoleFlush
  split
  · exact ftz_spec _ _
  · exact spec_pure ⟨rfl, rfl⟩

/-! ## Delay buffers and lines -/

theorem fdbReadF_spec (b : Fdb) (d : F64) : (fdbReadF b d).Quiet (ReadGives b d) := by
  unfold fdbReadF ReadGives
  cases delayIndex? d with
  | none => exact quiet_mono (takeFree_spec _) fun _ _ => trivial
  | some i =>
    cases b.interp
    · exact quiet_val rfl
    · exact quiet_step (fsub_spec _ _) fun f hf => quiet_mono (lerp_spec _ _ _) fun v hv => ⟨f, hf, hv⟩

theorem fdbCreate_eq (b : Fdb) (n : Nat) : fdbCreate b n = freshBuffer b.interp n := rfl

theorem sdCreate_spec (d : SDelay) (sr ms : F64) (h : (need sr ms).isSome) :
    (sdCreate d sr ms).Quiet (LineCreated d sr ms) := by
  unfold need at h
  unfold sdCreate LineCreated need
  cases e : F64.div? sr F64.thousand with
  | none => simp [e] at h
  | some k =>
    cases e' : F64.mul? ms k with
    | none => simp [e, e'] at h
    | some v =>
      have hb : (F64.isInf v || F64.lt v F64.zero) = false := by
        simp only [e, e'] at h
        cases hc : (F64.isInf v || F64.lt v F64.zero)
        · rfl
        · simp [hc] at h
      refine quiet_step (fdiv_spec _ _) fun k' hk => ?_
      rw [e] at hk
      obtain rfl : k' = k := hk
      refine quiet_step (fmul_spec _ _) fun v' hv => ?_
      rw [e'] at hv
      obtain rfl : v' = v := hv
      exact quiet_val ⟨(F64.trunc v' + 1).toNat, k', by simp [e', hb], rfl, rfl⟩

/-- What `sd_create` keeps, whatever the length (70_reset_and_hazards.md R541, R550). -/
theorem sdCreate_keeps (d : SDelay) (sr ms : F64) : (sdCreate d sr ms).Quiet fun d' =>
    d'.record = d.record ∧ d'.delaySamples = d.delaySamples ∧ d'.buf.interp = d.buf.interp :=
  quiet_step (fdiv_spec _ _) fun _ _ => quiet_step (fmul_spec _ _) fun _ _ => quiet_val ⟨rfl, rfl, rfl⟩

theorem sdReset_keeps (d : SDelay) (sr : F64) : (sdReset d sr).Quiet fun d' =>
    d'.record = d.record ∧ d'.delaySamples = d.delaySamples ∧ d'.buf.interp = d.buf.interp := by
  unfold sdReset
  split
  · exact sdCreate_keeps _ _ _
  · exact quiet_val ⟨rfl, rfl, rfl⟩

/-- Creating a line overwrites all but what the operations before it keep. -/
theorem LineCreated.of_kept {d d1 d' : SDelay} {sr ms : F64} (h : LineCreated d1 sr ms d')
    (hr : d1.record = d.record) (hd : d1.delaySamples = d.delaySamples) (hi : d1.buf.interp = d.buf.interp) :
    LineCreated d sr ms d' := by
  obtain ⟨n, spms, h1, h2, rfl⟩ := h
  exact ⟨n, spms, h1, h2, by rw [hr, hd, hi]⟩

theorem fits_need {l : Nat} {sr ms : F64} (h : fits l sr ms = true) : (need sr ms).isSome := by
  unfold fits at h
  cases e : need sr ms
  · simp [e] at h
  · rfl

theorem sdSet_spec (d : SDelay) (r : SDelayRec) : (sdSet d r).Quiet (LineSet d r) :=
  quiet_step (fmul_spec _ _) fun ds h => quiet_val ⟨ds, h, rfl⟩

theorem sdProc_spec (d : SDelay) (x : F64) : (sdProc d x).Quiet fun r => LineStep d x r.1 r.2 := by
  unfold sdProc LineStep sdBypass
  split
  · exact quiet_val ⟨rfl, rfl⟩
  · exact quiet_step (fdbReadF_spec _ _) fun y h => quiet_val ⟨h, rfl⟩

theorem sdRead_spec (d : SDelay) : (sdRead d).Quiet (ReadGives d.buf d.delaySamples) := fdbReadF_spec _ _

theorem sdReadT_spec (d : SDelay) (ms : F64) : (sdReadT d ms).Quiet (ReadTimeGives d ms) :=
  quiet_step (fmul_spec _ _) fun t h => quiet_mono (fdbReadF_spec _ _) fun _ h' => ⟨t, h, h'⟩

theorem sdReadP_spec (d : SDelay) (pct : F64) : (sdReadP d pct).Quiet (ReadPercentGives d pct) :=
  quiet_step (fdiv_spec _ _) fun f hf => quiet_step (fmul_spec _ _) fun t ht =>
    quiet_mono (fdbReadF_spec _ _) fun _ h => ⟨f, t, hf, ht, h⟩

/-! ## Oscillator -/

theorem lfoWrap_spec (c s : F64) : (lfoWrap c s).Quiet (WrapGives c s) := by
  unfold lfoWrap WrapGives
  split
  · exact fsub_spec _ _
  · split
    · exact fadd_spec _ _
    · exact quiet_val rfl

theorem parSine_spec (x : F64) : (parSine x).Quiet (ParSineGives x) :=
  quiet_step (fmul_spec _ _) fun bx h1 => quiet_step (fmul_spec _ _) fun cx h2 => quiet_step (fmul_spec _ _) fun cxx h3 =>
    quiet_step (fadd_spec _ _) fun y h4 => quiet_step (fmul_spec _ _) fun yy h5 => quiet_step (fsub_spec _ _) fun d h6 =>
      quiet_step (fmul_spec _ _) fun pd h7 => quiet_mono (fadd_spec _ _) fun _ h8 =>
        ⟨bx, cx, cxx, y, yy, d, pd, h1, h2, h3, h4, h5, h6, h7, h8⟩

theorem lfoShape_spec (c : F64) (w : Waveform) : (lfoShape c w).Quiet (ShapeGives c w) := by
  cases w with
  | triangle =>
    exact quiet_step (fmul_spec _ _) fun c2 h1 => quiet_step (fsub_spec _ _) fun t h2 =>
      quiet_step (fmul_spec _ _) fun t2 h3 => quiet_mono (fsub_spec _ _) fun _ h4 => ⟨c2, t, t2, h1, h2, h3, h4⟩
  | sine =>
    exact quiet_step (fmul_spec _ _) fun c2 h1 => quiet_step (fmul_spec _ _) fun cp h2 =>
      quiet_step (fsub_spec _ _) fun a h3 => quiet_mono (parSine_spec _) fun _ h4 => ⟨c2, cp, a, h1, h2, h3, h4⟩
  | saw => exact quiet_step (fmul_spec _ _) fun c2 h1 => quiet_mono (fsub_spec _ _) fun _ h2 => ⟨c2, h1, h2⟩

theorem lfoRender_spec (o : Lfo) : (lfoRender o).Quiet fun r =>
    RenderGives o r.1.normal r.1.quadPos r.2 ∧ r.1.inverted = F64.neg r.1.normal ∧ r.1.quadNeg = F64.neg r.1.quadPos :=
  quiet_step (lfoWrap_spec _ _) fun p h1 => quiet_step (fadd_spec _ _) fun q0 h2 => quiet_step (lfoWrap_spec _ _) fun q h3 =>
    quiet_step (lfoShape_spec _ _) fun _ h4 => quiet_step (lfoShape_spec _ _) fun _ h5 =>
      quiet_step (fadd_spec _ _) fun p' h6 => quiet_val ⟨⟨p, q0, q, p', h1, h2, h3, h4, h5, h6, rfl⟩, rfl, rfl⟩

theorem lfoReset_spec (o : Lfo) (sr : F64) : (lfoReset o sr).Quiet (LfoRestarted o sr) :=
  quiet_step (fdiv_spec _ _) fun inc h => quiet_val ⟨inc, h, rfl⟩

theorem lfoSet_spec (o : Lfo) (r : LfoRec) : (lfoSet o r).Quiet (LfoSet o r) := by
  unfold lfoSet LfoSet F64.ne
  cases F64.eq r.frequencyHz o.record.frequencyHz
  · exact quiet_step (fdiv_spec _ _) fun inc h => quiet_val ⟨inc, h, rfl⟩
  · exact quiet_val rfl

/-! ## Biquad, designer, equalizer, one-pole -/

theorem bqProc_spec (p : Params) (q : Biquad) (x : F64) :
    (bqProc p q x).Spec fun r uf => BiquadStep p.ftzThreshold q x r.1 r.2 uf := by
  unfold bqProc BiquadStep
  refine spec_bind (P := fun r uf => ∃ y0, FormStep p.ftzThreshold q.record.algorithm q.coef q.s x y0 r.2 ∧
      r.1 = flushOf p.ftzThreshold y0 ∧ uf = flushed p.ftzThreshold y0) ?_ fun r u h => ?_
  · cases q.record.algorithm with
    | direct =>
      refine quiet_step (fmul_spec _ _) fun t0 h0 => ?_
      refine quiet_step (P := fun y0 => DirectSum q.coef q.s x y0) ?_ fun y0 h => ?_
      · exact quiet_step (fmul_spec _ _) fun t1 h1 => quiet_step (fadd_spec _ _) fun u1 g1 =>
          quiet_step (fmul_spec _ _) fun t2 h2 => quiet_step (fadd_spec _ _) fun u2 g2 =>
          quiet_step (fmul_spec _ _) fun t3 h3 => quiet_step (fsub_spec _ _) fun u3 g3 =>
          quiet_step (fmul_spec _ _) fun t4 h4 => quiet_mono (fsub_spec _ _) fun _ g4 =>
            ⟨t0, t1, t2, t3, t4, u1, u2, u3, h0, h1, h2, h3, h4, g1, g2, g3, g4⟩
      · refine spec_bind (ftz_spec _ _) fun y u hy => spec_pure ⟨y0, ⟨h, ?_⟩, hy.1, by simp [hy.2]⟩
        simp [hy.1]
    | canonical =>
      exact quiet_step (fmul_spec _ _) fun t1 h1 => quiet_step (fsub_spec _ _) fun u1 h2 =>
        quiet_step (fmul_spec _ _) fun t2 h3 => quiet_step (fsub_spec _ _) fun w h4 =>
        quiet_step (fmul_spec _ _) fun v0 h5 => quiet_step (fmul_spec _ _) fun v1 h6 =>
        quiet_step (fadd_spec _ _) fun z1 h7 => quiet_step (fmul_spec _ _) fun v2 h8 =>
        quiet_step (fadd_spec _ _) fun y0 h9 => spec_bind (ftz_spec _ _) fun y u hy =>
          spec_pure ⟨y0, ⟨w, ⟨t1, t2, u1, v0, v1, v2, z1, h1, h3, h2, h4, h5, h6, h8, h7, h9⟩, rfl⟩, hy.1,
            by simp [hy.2]⟩
    | transposeDirect =>
      exact quiet_step (fadd_spec _ _) fun w h1 => quiet_step (fmul_spec _ _) fun v0 h2 =>
        quiet_step (fadd_spec _ _) fun y0 h3 => spec_bind (ftz_spec _ _) fun y u hy =>
        quiet_step (fmul_spec _ _) fun m1 h4 => quiet_step (fsub_spec _ _) fun a1 h5 =>
        quiet_step (fmul_spec _ _) fun a2 h6 => quiet_step (fmul_spec _ _) fun m2 h7 =>
        quiet_step (fadd_spec _ _) fun a3 h8 => quiet_step (fmul_spec _ _) fun a4 h9 =>
          spec_pure ⟨y0, ⟨w, v0, m1, m2, h1, h2, h3, h4, h5, h6, h7, h8, h9⟩, hy.1, by simp [hy.2]⟩
    | transposeCanonical =>
      refine quiet_step (fmul_spec _ _) fun v0 h1 => quiet_step (fadd_spec _ _) fun y0 h2 =>
        spec_bind (ftz_spec _ _) fun y u hy => ?_
      obtain ⟨rfl, rfl⟩ := hy
      exact quiet_step (fmul_spec _ _) fun m1 h3 => quiet_step (fmul_spec _ _) fun m2 h4 =>
        quiet_step (fsub_spec _ _) fun d1 h5 => quiet_step (fadd_spec _ _) fun a1 h6 =>
        quiet_step (fmul_spec _ _) fun m3 h7 => quiet_step (fmul_spec _ _) fun m4 h8 =>
        quiet_step (fsub_spec _ _) fun a2 h9 =>
          spec_pure ⟨y0, ⟨v0, m1, m2, d1, m3, m4, h1, h2, h3, h4, h5, h6, h7, h8, h9, rfl, rfl⟩, rfl, by simp⟩
  · obtain ⟨y0, h1, h2, h3⟩ := h
    exact spec_pure ⟨y0, r.2, h1, h2, by simp [h3], rfl⟩

theorem bqStorage_spec (q : Biquad) : (bqStorage q).Quiet (StorageGives q) := by
  unfold bqStorage StorageGives
  cases q.record.algorithm
  · exact quiet_step (fmul_spec _ _) fun t1 h1 => quiet_step (fmul_spec _ _) fun t2 h2 => quiet_step (fadd_spec _ _) fun u2 h3 =>
      quiet_step (fmul_spec _ _) fun t3 h4 => quiet_step (fsub_spec _ _) fun u3 h5 => quiet_step (fmul_spec _ _) fun t4 h6 =>
      quiet_mono (fsub_spec _ _) fun _ h7 => ⟨t1, t2, t3, t4, u2, u3, h1, h2, h4, h6, h3, h5, h7⟩
  · exact quiet_val rfl
  · exact quiet_val rfl
  · exact quiet_val rfl

theorem halfTheta_gamma_spec (beta fc sr : F64) : (shelfGamma beta fc sr).Quiet (GammaGives beta fc sr) := by
  refine quiet_step (P := fun h => ∃ tp f th, Gives (F64.mul? F64.two F64.pi) tp ∧ Gives (F64.mul? tp fc) f ∧
      Gives (F64.div? f sr) th ∧ Gives (F64.div? th F64.two) h) ?_ fun h ⟨tp, f, th, h1, h2, h3, h4⟩ => ?_
  · exact quiet_step (fmul_spec _ _) fun tp h1 => quiet_step (fmul_spec _ _) fun f h2 =>
      quiet_step (fdiv_spec _ _) fun th h3 => quiet_mono (fdiv_spec _ _) fun _ h4 => ⟨tp, f, th, h1, h2, h3, h4⟩
  · exact quiet_step (ftan_spec _) fun t h5 => quiet_step (fmul_spec _ _) fun delta h6 =>
      quiet_step (fsub_spec _ _) fun n h7 => quiet_step (fadd_spec _ _) fun d h8 =>
      quiet_mono (fdiv_spec _ _) fun _ h9 => ⟨tp, f, th, h, t, delta, n, d, h1, h2, h3, h4, h5, h6, h7, h8, h9⟩

theorem lowShelf_spec (fc dB sr : F64) : (lowShelf fc dB sr).Quiet (LowShelfGives fc dB sr) :=
  quiet_step (dbToGain_spec _) fun mu h1 => quiet_step (fadd_spec _ _) fun s h2 => quiet_step (fdiv_spec _ _) fun beta h3 =>
    quiet_step (halfTheta_gamma_spec _ _ _) fun gamma h4 => quiet_step (fsub_spec _ _) fun n h5 =>
    quiet_step (fdiv_spec _ _) fun _ h6 => quiet_step (fsub_spec _ _) fun m h7 => quiet_step (fdiv_spec _ _) fun _ h8 =>
    quiet_step (fsub_spec _ _) fun _ h9 =>
      quiet_val ⟨mu, s, beta, gamma, n, m, h1, h2, h3, h4, h5, h6, h7, h8, rfl, rfl, rfl, h9, rfl⟩

theorem highShelf_spec (fc dB sr : F64) : (highShelf fc dB sr).Quiet (HighShelfGives fc dB sr) :=
  quiet_step (dbToGain_spec _) fun mu h1 => quiet_step (fadd_spec _ _) fun s h2 => quiet_step (fdiv_spec _ _) fun beta h3 =>
    quiet_step (halfTheta_gamma_spec _ _ _) fun gamma h4 => quiet_step (fadd_spec _ _) fun n h5 =>
    quiet_step (fdiv_spec _ _) fun _ h6 => quiet_step (fsub_spec _ _) fun _ h7 =>
      quiet_val ⟨mu, s, beta, gamma, n, h1, h2, h3, h4, h5, h6, rfl, rfl, rfl, rfl, h7, rfl⟩

theorem afDesign_spec (r : FilterRec) (sr : F64) : (afDesign r sr).Quiet (DesignGives r sr) := by
  unfold afDesign DesignGives
  cases r.algorithm
  · exact lowShelf_spec _ _ _
  · exact highShelf_spec _ _ _

theorem afSet_spec (f : Filter) (r : FilterRec) : (afSet f r).Quiet (FilterSet f r) := by
  have e : sameDesign r f.record = true ↔ (r.algorithm = f.record.algorithm ∧ F64.eq r.fc f.record.fc = true ∧
      F64.eq r.q f.record.q = true ∧ F64.eq r.boostCutDb f.record.boostCutDb = true) := by
    simp only [sameDesign, Bool.and_eq_true, beq_iff_eq, and_assoc]
  unfold afSet FilterSet
  by_cases h : sameDesign r f.record = true
  · rw [if_pos h]
    simp only [if_pos (e.1 h)]
    exact quiet_val rfl
  · rw [if_neg h]
    simp only [if_neg (fun h' => h (e.2 h'))]
    have hc : coerceQ r = { r with q := if F64.le r.q F64.zero then F64.q0707 else r.q } := by
      unfold coerceQ; split <;> rfl
    refine quiet_step (afDesign_spec _ _) fun c hd => quiet_val ⟨c, ?_, by rw [hc]⟩
    rw [hc] at hd
    exact hd

theorem afProc_spec (p : Params) (f : Filter) (x : F64) :
    (afProc p f x).Spec fun r uf => FilterStep p.ftzThreshold f x r.1 r.2 uf :=
  quiet_step (fmul_spec _ _) fun dx h1 => spec_bind (bqProc_spec _ _ _) fun r u h2 =>
    quiet_step (fmul_spec _ _) fun cy h3 => quiet_step (fadd_spec _ _) fun _ h4 =>
      spec_pure ⟨dx, r.1, r.2, cy, h1, by simpa using h2, h3, h4, rfl⟩

theorem shSet_spec (e : Shelf) (r : ShelfRec) : (shSet e r).Quiet (ShelfSet e r) :=
  quiet_step (afSet_spec _ _) fun _ h1 => quiet_step (afSet_spec _ _) fun _ h2 => quiet_val ⟨h1, h2, rfl⟩

theorem shProc_spec (p : Params) (e : Shelf) (x : F64) :
    (shProc p e x).Spec fun r uf => ShelfStep p.ftzThreshold e x r.1 r.2 uf :=
  spec_bind (afProc_spec _ _ _) fun v u1 h1 => spec_bind (afProc_spec _ _ _) fun _ u2 h2 =>
    spec_pure ⟨v.1, u1, u2, h1, h2, rfl, by simp⟩

theorem opProc_spec (p : Params) (h : OnePole) (x : F64) :
    (opProc p h x).Spec fun r uf => OnePoleStep p h x r.1 r.2 uf :=
  quiet_step (fsub_spec _ _) fun k h1 => quiet_step (fmul_spec _ _) fun a h2 => quiet_step (fmul_spec _ _) fun b h3 =>
    quiet_step (fadd_spec _ _) fun y0 h4 => spec_bind (ftzOnepole_spec _ _) fun y u h5 =>
      spec_pure ⟨k, a, b, y0, h1, h2, h3, h4, by simpa using h5, rfl⟩

/-! ## All-pass sections -/

theorem modulatedDelay_spec (r : ApfRec) (o : F64) : (modulatedDelay r o).Quiet (ModulatedDelayGives r o) := by
  refine quiet_step (fsub_spec _ _) fun m0 h1 => quiet_step (fmax_spec _ _) fun minD h2 =>
    quiet_step (fmul_spec _ _) fun d h3 => ?_
  refine quiet_step (P := fun b => ∃ h, Gives (F64.mul? F64.half d) h ∧ Gives (F64.add? h F64.half) b) ?_
    fun b ⟨h, h4, h5⟩ => ?_
  · exact quiet_step (fmul_spec _ _) fun h h4 => quiet_mono (fadd_spec _ _) fun _ h5 => ⟨h, h4, h5⟩
  exact quiet_step (clamp01_spec _) fun u h6 => quiet_step (fsub_spec _ _) fun k h7 =>
    quiet_step (fsub_spec _ _) fun range h8 => quiet_step (fmul_spec _ _) fun back h9 =>
      quiet_mono (fsub_spec _ _) fun _ h10 =>
        ⟨m0, minD, d, h, b, u, k, range, back, h1, h2, h3, h4, h5, h6, h7, h8, h9, h10⟩

theorem apfTap_spec (a : Apf) : (apfTap a).Quiet fun r => TapGives a r.1 r.2.lfo ∧ r.2 = { a with lfo := r.2.lfo } := by
  unfold apfTap TapGives
  split
  · exact quiet_step (lfoRender_spec _) fun r h1 => quiet_step (modulatedDelay_spec _ _) fun modD h2 =>
      quiet_step (sdReadT_spec _ _) fun _ h3 => quiet_val ⟨⟨_, _, modD, h1.1, h2, h3⟩, rfl⟩
  · exact quiet_step (sdRead_spec _) fun _ h => quiet_val ⟨⟨h, rfl⟩, rfl⟩

theorem apfDamp_spec (p : Params) (a : Apf) (w : F64) : (apfDamp p a w).Spec fun r uf =>
    DampGives p a w r.1 r.2.lpfState uf ∧ r.2 = { a with lpfState := r.2.lpfState } := by
  unfold apfDamp DampGives
  split
  · exact quiet_step (fsub_spec _ _) fun k h1 => quiet_step (fmul_spec _ _) fun x h2 =>
      quiet_step (fmul_spec _ _) fun y h3 => quiet_step (fadd_spec _ _) fun v0 h4 =>
      spec_bind (ftzOnepole_spec _ _) fun v u h5 =>
        spec_pure ⟨⟨k, x, y, v0, h1, h2, h3, h4, by simpa using h5, rfl⟩, rfl⟩
  · exact spec_pure ⟨⟨rfl, rfl, rfl⟩, rfl⟩

theorem apfWn_spec (g x w : F64) : (apfWn g x w).Quiet fun wn => ∃ m, Gives (F64.mul? g w) m ∧ Gives (F64.add? x m) wn :=
  quiet_step (fmul_spec _ _) fun m h1 => quiet_mono (fadd_spec _ _) fun _ h2 => ⟨m, h1, h2⟩

theorem apfY_spec (p : Params) (g wn w : F64) : (apfY p g wn w).Spec fun y uf =>
    ∃ n y0, Gives (F64.mul? (F64.neg g) wn) n ∧ Gives (F64.add? n w) y0 ∧ y = flushOf p.ftzThreshold y0 ∧
      uf = flushed p.ftzThreshold y0 :=
  quiet_step (fmul_spec _ _) fun n h1 => quiet_step (fadd_spec _ _) fun y0 h2 =>
    spec_mono (ftz_spec _ _) fun _ _ h => ⟨n, y0, h1, h2, h.1, h.2⟩

theorem apfProc_spec (p : Params) (a : Apf) (x : F64) : (apfProc p a x).Spec fun r uf => ApfStep p a x r.1 r.2 uf := by
  unfold apfProc ApfStep sdBypass
  split
  · exact spec_pure ⟨rfl, rfl, rfl⟩
  refine quiet_step (apfTap_spec _) fun t ht => spec_bind (apfDamp_spec _ _ _) fun d ud hd => ?_
  obtain ⟨ht, et⟩ := ht
  obtain ⟨hd, ed⟩ := hd
  unfold apfCore
  refine quiet_step (apfWn_spec _ _ _) fun wn ⟨m, h1, h2⟩ => spec_bind (apfY_spec _ _ _ _) fun y u h => spec_pure ?_
  obtain ⟨n, y0, h3, h4, h5, h6⟩ := h
  rw [et] at hd ed
  rw [ed] at h1 h3 ⊢
  refine ⟨t.1, t.2.lfo, d.1, d.2.lpfState, ud, wn, y0, ht, hd, ⟨m, n, h1, h2, h3, h4⟩, h5, ?_, rfl⟩
  simp [h6]

theorem napfProc_spec (p : Params) (n : Napf) (x : F64) : (napfProc p n x).Spec fun r uf => NapfStep p n x r.1 r.2 uf := by
  unfold napfProc NapfStep sdBypass
  split
  · exact spec_pure ⟨rfl, rfl, rfl⟩
  refine quiet_step (apfTap_spec _) fun t ⟨ht, et⟩ => quiet_step (apfWn_spec _ _ _) fun wn ⟨m, h1, h2⟩ =>
    spec_bind (apfProc_spec _ _ _) fun i ui hi => spec_bind (apfY_spec _ _ _ _) fun y u h => spec_pure ?_
  obtain ⟨k, y0, h3, h4, h5, h6⟩ := h
  refine ⟨t.1, t.2.lfo, wn, y0, i.1, i.2, ui, ht, ⟨m, k, h1, h2, h3, h4⟩, hi, h5, by simp [h6], ?_⟩
  rw [et]
  rfl

theorem apfSet_spec (a : Apf) (r : ApfRec) : (apfSet a r).Quiet (ApfSet a r) :=
  quiet_step (sdSet_spec _ _) fun _ h1 => quiet_step (lfoSet_spec _ _) fun _ h2 => quiet_val ⟨h1, h2, rfl, rfl⟩

theorem napfSet_spec (n : Napf) (r : NapfRec) : (napfSet n r).Quiet (NapfSet n r) :=
  quiet_step (apfSet_spec _ _) fun _ h1 => quiet_step (apfSet_spec _ _) fun _ h2 => quiet_val ⟨h1, h2, rfl⟩

theorem apfReset_spec (a : Apf) (sr : F64) (h : (need sr a.sd.bufMs).isSome) :
    (apfReset a sr).Quiet (ApfRestarted a sr a.sd.bufMs) :=
  quiet_step (lfoReset_spec _ _) fun _ h1 => quiet_step (sdCreate_spec _ _ _ h) fun _ h2 => quiet_val ⟨h1, h2, rfl, rfl⟩

theorem apfReset_keeps (a : Apf) (sr : F64) : (apfReset a sr).Quiet fun a' =>
    LfoRestarted a.lfo sr a'.lfo ∧ a'.record = a.record ∧ a'.lpfState = F64.zero ∧ a'.sd.record = a.sd.record ∧
      a'.sd.delaySamples = a.sd.delaySamples ∧ a'.sd.buf.interp = a.sd.buf.interp :=
  quiet_step (lfoReset_spec _ _) fun _ h1 => quiet_step (sdCreate_keeps _ _ _) fun _ h2 =>
    quiet_val ⟨h1, rfl, rfl, h2⟩

theorem napfReset_spec (n : Napf) (sr : F64) (ho : (need sr n.outer.sd.bufMs).isSome)
    (hi : (need sr n.inner.sd.bufMs).isSome) :
    (napfReset n sr).Quiet (NapfRestarted n sr n.outer.sd.bufMs n.inner.sd.bufMs) :=
  quiet_step (apfReset_spec _ _ ho) fun _ h1 => quiet_step (apfReset_spec _ _ hi) fun _ h2 => quiet_val ⟨h1, h2, rfl⟩

theorem apfCreate_spec (a : Apf) (sr ms : F64) (h : (need sr ms).isSome) :
    (apfCreate a sr ms).Quiet fun a' => LineCreated a.sd sr ms a'.sd ∧ a' = { a with sd := a'.sd } :=
  quiet_step (sdCreate_spec _ _ _ h) fun _ h1 => quiet_val ⟨h1, rfl⟩

theorem napfCreate_spec (n : Napf) (sr mo mi : F64) (ho : (need sr mo).isSome) (hi : (need sr mi).isSome) :
    (napfCreate n sr mo mi).Quiet fun n' => LineCreated n.outer.sd sr mo n'.outer.sd ∧
      LineCreated n.inner.sd sr mi n'.inner.sd ∧ n'.record = n.record ∧
      n'.outer = { n.outer with sd := n'.outer.sd } ∧ n'.inner = { n.inner with sd := n'.inner.sd } :=
  quiet_step (apfCreate_spec _ _ _ ho) fun _ h1 => quiet_step (apfCreate_spec _ _ _ hi) fun _ h2 =>
    quiet_val ⟨h1.1, h2.1, rfl, h1.2, h2.2⟩

/-! ## Reverb tank -/

theorem rtBranch_spec (p : Params) (kRT pre input : F64) (n : Napf) (h : OnePole) (d : SDelay) :
    (rtBranch p kRT pre input n h d).Spec fun r uf => BranchStep p kRT pre input n h d r.next r.napf r.lpf r.bd uf :=
  spec_bind (napfProc_spec _ _ _) fun a ua h1 => spec_bind (opProc_spec _ _ _) fun l ul h2 =>
    quiet_step (sdProc_spec _ _) fun o h3 => quiet_step (fmul_spec _ _) fun dOut h4 =>
    quiet_step (fadd_spec _ _) fun _ h5 => spec_pure ⟨a.1, l.1, o.1, dOut, ua, ul, h1, h2, h3, h4, h5, by simp⟩

theorem branchReset_spec (p : Params) (sr : F64) (d : SDelay) (h : (need sr p.branchBufMs).isSome) :
    (branchReset p sr d).Quiet (LineCreated d sr p.branchBufMs) :=
  quiet_step (sdReset_keeps _ _) fun _ h1 => quiet_mono (sdCreate_spec _ _ _ h) fun _ h2 =>
    h2.of_kept h1.1 h1.2.1 h1.2.2

theorem cellReset_spec (p : Params) (sr : F64) (n : Napf) (h : (need sr p.apfBufMs).isSome) :
    (cellReset p sr n).Quiet (NapfRestarted n sr p.apfBufMs p.apfBufMs) := by
  unfold cellReset napfReset
  refine quiet_step (P := fun m => m.record = n.record ∧
    (LfoRestarted n.outer.lfo sr m.outer.lfo ∧ m.outer.record = n.outer.record ∧ m.outer.lpfState = F64.zero ∧
      m.outer.sd.record = n.outer.sd.record ∧ m.outer.sd.delaySamples = n.outer.sd.delaySamples ∧
      m.outer.sd.buf.interp = n.outer.sd.buf.interp) ∧
    (LfoRestarted n.inner.lfo sr m.inner.lfo ∧ m.inner.record = n.inner.record ∧ m.inner.lpfState = F64.zero ∧
      m.inner.sd.record = n.inner.sd.record ∧ m.inner.sd.delaySamples = n.inner.sd.delaySamples ∧
      m.inner.sd.buf.interp = n.inner.sd.buf.interp)) ?_ fun m ⟨hr, ⟨o1, o2, o3, o4, o5, o6⟩, i1, i2, i3, i4, i5, i6⟩ => ?_
  · exact quiet_step (apfReset_keeps _ _) fun _ h1 => quiet_step (apfReset_keeps _ _) fun _ h2 => quiet_val ⟨rfl, h1, h2⟩
  · refine quiet_mono (napfCreate_spec _ _ _ _ h h) fun n' ⟨c1, c2, c3, c4, c5⟩ => ?_
    refine ⟨⟨?_, c1.of_kept o4 o5 o6, ?_, ?_⟩, ⟨?_, c2.of_kept i4 i5 i6, ?_, ?_⟩, c3.trans hr⟩
    · rw [c4]; exact o1
    · rw [c4]; exact o2
    · rw [c4]; exact o3
    · rw [c5]; exact i1
    · rw [c5]; exact i2
    · rw [c5]; exact i3

theorem rtReset_spec (p : Params) (t : Tank) (sr : F64) (hf : rtFits p sr = true) :
    (rtReset p t sr).Quiet (TankRestarted p t sr) := by
  simp only [rtFits, Bool.and_eq_true] at hf
  obtain ⟨⟨hp, hb⟩, ha⟩ := hf
  refine quiet_step (sdReset_keeps _ _) fun pre0 k0 => quiet_step (sdCreate_spec _ _ _ (fits_need hp)) fun pre k1 =>
    quiet_step (branchReset_spec _ _ _ (fits_need hb)) fun b0 h0 => quiet_step (cellReset_spec _ _ _ (fits_need ha)) fun n0 g0 =>
    quiet_step (branchReset_spec _ _ _ (fits_need hb)) fun b1 h1 => quiet_step (cellReset_spec _ _ _ (fits_need ha)) fun n1 g1 =>
    quiet_step (branchReset_spec _ _ _ (fits_need hb)) fun b2 h2 => quiet_step (cellReset_spec _ _ _ (fits_need ha)) fun n2 g2 =>
    quiet_step (branchReset_spec _ _ _ (fits_need hb)) fun b3 h3 => quiet_step (cellReset_spec _ _ _ (fits_need ha)) fun n3 g3 =>
      quiet_val ⟨k1.of_kept k0.1 k0.2.1 k0.2.2, ?_, rfl, rfl, rfl, rfl⟩
  intro i
  match i with
  | 0 => exact ⟨h0, g0, rfl⟩
  | 1 => exact ⟨h1, g1, rfl⟩
  | 2 => exact ⟨h2, g2, rfl⟩
  | 3 => exact ⟨h3, g3, rfl⟩

theorem branchSet_spec (p : Params) (gA gF : F64) (w : F64 × F64) (rate fw : F64) (n : Napf) (d : SDelay) :
    (branchSet p gA gF w rate fw n d).Quiet fun r =>
      (∃ o i, Gives (F64.mul? gA w.1) o ∧ Gives (F64.mul? gA w.2) i ∧ NapfSet n
        { outerDelayMSec := o, innerDelayMSec := i, outerG := p.outerG, innerG := p.innerG, enableLFO := true
          lfoRateHz := rate, lfoDepth := p.lfoDepth, lfoMaxModMSec := p.lfoMaxModMs } r.1) ∧
      ∃ t, Gives (F64.mul? gF fw) t ∧ LineSet d { delayTimeMSec := t, interpolate := false } r.2 := by
  refine quiet_step (P := fun r => ∃ o i, Gives (F64.mul? gA w.1) o ∧ Gives (F64.mul? gA w.2) i ∧ r =
    { outerDelayMSec := o, innerDelayMSec := i, outerG := p.outerG, innerG := p.innerG, enableLFO := true
      lfoRateHz := rate, lfoDepth := p.lfoDepth, lfoMaxModMSec := p.lfoMaxModMs }) ?_ fun r ⟨o, i, h1, h2, hr⟩ => ?_
  · exact quiet_step (fmul_spec _ _) fun o h1 => quiet_step (fmul_spec _ _) fun i h2 => quiet_val ⟨o, i, h1, h2, rfl⟩
  · subst hr
    exact quiet_step (napfSet_spec _ _) fun _ h3 => quiet_step (fmul_spec _ _) fun t h4 =>
      quiet_step (sdSet_spec _ _) fun _ h5 => quiet_val ⟨⟨o, i, h1, h2, h3⟩, t, h4, h5⟩

theorem rtSet_spec (p : Params) (t : Tank) (r : TankRec) : (rtSet p t r).Quiet (TankSet p t r) := by
  refine quiet_step (shSet_spec _ _) fun _ h1 => quiet_step (shSet_spec _ _) fun _ h2 => quiet_step (sdSet_spec _ _) fun _ h3 =>
    quiet_step (fdiv_spec _ _) fun wA h4 => quiet_step (fmul_spec _ _) fun gA h5 => quiet_step (fdiv_spec _ _) fun wF h6 =>
    quiet_step (fmul_spec _ _) fun gF h7 => quiet_step (branchSet_spec _ _ _ _ _ _ _ _) fun x0 b0 =>
    quiet_step (branchSet_spec _ _ _ _ _ _ _ _) fun x1 b1 => quiet_step (branchSet_spec _ _ _ _ _ _ _ _) fun x2 b2 =>
    quiet_step (branchSet_spec _ _ _ _ _ _ _ _) fun x3 b3 =>
      quiet_val ⟨h1, h2, h3, ⟨wA, gA, wF, gF, h4, h5, h6, h7, fun i => ?_⟩, rfl, rfl⟩
  match i with
  | 0 => exact ⟨rfl, b0⟩
  | 1 => exact ⟨rfl, b1⟩
  | 2 => exact ⟨rfl, b2⟩
  | 3 => exact ⟨rfl, b3⟩

theorem tapAcc_spec (plus : Bool) (acc m : F64) :
    (tapAcc plus acc m).Quiet (Gives (if plus then F64.add? acc m else F64.sub? acc m)) := by
  cases plus
  · exact fsub_spec _ _
  · exact fadd_spec _ _

theorem rightSample_spec (inCh : Nat) (i1 : F32) :
    (rightSample inCh i1).Quiet fun xR => if inCh = 2 then Gives (F32.toF64? i1) xR else xR = F64.zero := by
  unfold rightSample
  by_cases h : inCh = 2
  · rw [if_pos h]; simp only [if_pos h]; exact widen_spec _
  · rw [if_neg h]; simp only [if_neg h]; exact quiet_val rfl

theorem tapSum_spec (p : Params) (bd : Quad SDelay) (acc : F64) (taps : List Tap) :
    (tapSum p bd acc taps).Quiet (TapsGive p bd acc taps) := by
  induction taps generalizing acc with
  | nil => exact quiet_val rfl
  | cons t ts ih =>
    refine quiet_step (sdReadP_spec _ _) fun x h1 => quiet_step (fmul_spec _ _) fun m h2 => ?_
    exact quiet_step (tapAcc_spec _ _ _) fun acc' h3 => quiet_mono (ih acc') fun _ h4 => ⟨x, m, acc', h1, h2, h3, h4⟩

theorem rtGraph_spec (p : Params) (t : Tank) (inCh : Nat) (xL xR : F64) :
    (rtGraph p t inCh xL xR).Spec fun g uf => GraphStep p t inCh xL xR g.1 g.2.1 g.2.2 uf := by
  refine quiet_step (sdRead_spec _) fun last h1 => quiet_step (fmul_spec _ _) fun fb h2 =>
    quiet_step (fdiv_spec _ _) fun mL h3 => quiet_step (fdiv_spec _ _) fun mR h4 =>
    quiet_step (fadd_spec _ _) fun mono h5 => quiet_step (sdProc_spec _ _) fun pre h6 =>
    quiet_step (fadd_spec _ _) fun input h7 => spec_bind (rtBranch_spec _ _ _ _ _ _ _) fun x0 u0 b0 =>
    spec_bind (rtBranch_spec _ _ _ _ _ _ _) fun x1 u1 b1 => spec_bind (rtBranch_spec _ _ _ _ _ _ _) fun x2 u2 b2 =>
    spec_bind (rtBranch_spec _ _ _ _ _ _ _) fun x3 u3 b3 => quiet_step (tapSum_spec _ _ _ _) fun outL h8 =>
    quiet_step (tapSum_spec _ _ _ _) fun outR h9 => spec_bind (shProc_spec _ _ _) fun l ul h10 =>
    spec_bind (shProc_spec _ _ _) fun r ur h11 => spec_pure ?_
  exact ⟨last, fb, mL, mR, mono, pre.1, input, x0.next, x1.next, x2.next, x3.next, outL, outR, u0, u1, u2, u3, ul, ur,
    h1, h2, h3, h4, h5, h6, h7, b0, b1, b2, b3, h8, h9, h10, h11, rfl, rfl, by simp [Bool.or_assoc]⟩

theorem mixChannel_spec (dry wet x tank : F64) : (mixChannel dry wet x tank >>= fun v => narrow v).Quiet
    (ChannelMix dry wet x tank) := by
  refine quiet_step (P := fun y => ∃ a b, Gives (F64.mul? dry x) a ∧ Gives (F64.mul? wet tank) b ∧
    Gives (F64.add? a b) y) ?_ fun y ⟨a, b, h1, h2, h3⟩ => quiet_mono (narrow_spec _) fun _ h4 => ⟨a, b, y, h1, h2, h3, h4⟩
  exact quiet_step (fmul_spec _ _) fun a h1 => quiet_step (fmul_spec _ _) fun b h2 =>
    quiet_mono (fadd_spec _ _) fun _ h3 => ⟨a, b, h1, h2, h3⟩

theorem mixMono_spec (dry wet xL tl tr : F64) : (mixMono dry wet xL tl tr >>= fun v => narrow v).Quiet
    (MonoMix dry wet xL tl tr) := by
  refine quiet_step (P := fun y => ∃ a w s b, Gives (F64.mul? dry xL) a ∧ Gives (F64.mul? wet F64.half) w ∧
    Gives (F64.add? tl tr) s ∧ Gives (F64.mul? w s) b ∧ Gives (F64.add? a b) y) ?_
    fun y ⟨a, w, s, b, h1, h2, h3, h4, h5⟩ => quiet_mono (narrow_spec _) fun _ h6 =>
      ⟨a, w, s, b, y, h1, h2, h3, h4, h5, h6⟩
  exact quiet_step (fmul_spec _ _) fun a h1 => quiet_step (fmul_spec _ _) fun w h2 => quiet_step (fadd_spec _ _) fun s h3 =>
    quiet_step (fmul_spec _ _) fun b h4 => quiet_mono (fadd_spec _ _) fun _ h5 => ⟨a, w, s, b, h1, h2, h3, h4, h5⟩

theorem rtFrame_spec (p : Params) (t : Tank) (inCh outCh : Nat) (i0 i1 : F32) :
    (rtFrame p t inCh outCh i0 i1).Spec fun r uf => FrameStep p t inCh outCh i0 i1 r.1 r.2 uf := by
  unfold rtFrame
  refine quiet_step (widen_spec _) fun xL h1 => ?_
  refine quiet_step (rightSample_spec _ _) fun xR h2 => ?_
  refine spec_bind (rtGraph_spec _ _ _ _ _) fun g ug h3 => quiet_step (dbToGain_spec _) fun dry h4 =>
    quiet_step (dbToGain_spec _) fun wet h5 => ?_
  by_cases ho : outCh = 1
  · rw [if_pos ho]
    have hm := mixMono_spec dry wet xL g.1 g.2.1
    refine quiet_step (f := fun o => pure ([o], g.2.2)) hm fun o h6 => spec_pure ?_
    exact ⟨xL, xR, g.1, g.2.1, dry, wet, h1, h2, by simpa using h3, h4, h5, by rw [if_pos ho]; exact ⟨o, rfl, h6⟩⟩
  · rw [if_neg ho]
    refine quiet_step (f := fun oL => mixChannel dry wet xR g.2.1 >>= fun r => narrow r >>= fun oR =>
      pure ([oL, oR], g.2.2)) (mixChannel_spec dry wet xL g.1) fun oL h6 => ?_
    refine quiet_step (f := fun oR => pure ([oL, oR], g.2.2)) (mixChannel_spec dry wet xR g.2.1) fun oR h7 => spec_pure ?_
    exact ⟨xL, xR, g.1, g.2.1, dry, wet, h1, h2, by simpa using h3, h4, h5,
      by rw [if_neg ho]; exact ⟨oL, oR, rfl, h6, h7⟩⟩

end Sys2Proof.Machine
end

