-- ==== Sys2Proof/Laws/State.lean ====
section
/-! SUPPORT. What each named update of Machine/State.lean leaves in each field: one lemma per field and update,
true by rfl. -/

namespace Sys2Proof.Machine

@[simp] theorem State.setTank_cfg (s : State) (v : Tank) : (s.setTank v).cfg = s.cfg := rfl
@[simp] theorem State.setTank_tank (s : State) (v : Tank) : (s.setTank v).tank = v := rfl
@[simp] theorem State.setTank_tankStg (s : State) (v : Tank) : (s.setTank v).tankStg = s.tankStg := rfl
@[simp] theorem State.setTank_biquad (s : State) (v : Tank) : (s.setTank v).biquad = s.biquad := rfl
@[simp] theorem State.setTank_biquadStg (s : State) (v : Tank) : (s.setTank v).biquadStg = s.biquadStg := rfl
@[simp] theorem State.setTank_fdb (s : State) (v : Tank) : (s.setTank v).fdb = s.fdb := rfl
@[simp] theorem State.setTank_lfo (s : State) (v : Tank) : (s.setTank v).lfo = s.lfo := rfl
@[simp] theorem State.setTank_lfoStg (s : State) (v : Tank) : (s.setTank v).lfoStg = s.lfoStg := rfl
@[simp] theorem State.setTank_onepole (s : State) (v : Tank) : (s.setTank v).onepole = s.onepole := rfl
@[simp] theorem State.setTank_onepoleStg (s : State) (v : Tank) : (s.setTank v).onepoleStg = s.onepoleStg := rfl
@[simp] theorem State.setTank_sdelay (s : State) (v : Tank) : (s.setTank v).sdelay = s.sdelay := rfl
@[simp] theorem State.setTank_sdelayStg (s : State) (v : Tank) : (s.setTank v).sdelayStg = s.sdelayStg := rfl
@[simp] theorem State.setTank_apf (s : State) (v : Tank) : (s.setTank v).apf = s.apf := rfl
@[simp] theorem State.setTank_apfStg (s : State) (v : Tank) : (s.setTank v).apfStg = s.apfStg := rfl
@[simp] theorem State.setTank_napf (s : State) (v : Tank) : (s.setTank v).napf = s.napf := rfl
@[simp] theorem State.setTank_napfStg (s : State) (v : Tank) : (s.setTank v).napfStg = s.napfStg := rfl
@[simp] theorem State.setTank_filter (s : State) (v : Tank) : (s.setTank v).filter = s.filter := rfl
@[simp] theorem State.setTank_filterStg (s : State) (v : Tank) : (s.setTank v).filterStg = s.filterStg := rfl
@[simp] theorem State.setTank_shelf (s : State) (v : Tank) : (s.setTank v).shelf = s.shelf := rfl
@[simp] theorem State.setTank_shelfStg (s : State) (v : Tank) : (s.setTank v).shelfStg = s.shelfStg := rfl
@[simp] theorem State.setTank_draws (s : State) (v : Tank) : (s.setTank v).draws = s.draws := rfl
@[simp] theorem State.setTank_rx (s : State) (v : Tank) : (s.setTank v).rx = s.rx := rfl
@[simp] theorem State.setTank_tx (s : State) (v : Tank) : (s.setTank v).tx = s.tx := rfl

@[simp] theorem State.setTankStg_cfg (s : State) (v : TankRec) : (s.setTankStg v).cfg = s.cfg := rfl
@[simp] theorem State.setTankStg_tank (s : State) (v : TankRec) : (s.setTankStg v).tank = s.tank := rfl
@[simp] theorem State.setTankStg_tankStg (s : State) (v : TankRec) : (s.setTankStg v).tankStg = v := rfl
@[simp] theorem State.setTankStg_biquad (s : State) (v : TankRec) : (s.setTankStg v).biquad = s.biquad := rfl
@[simp] theorem State.setTankStg_biquadStg (s : State) (v : TankRec) : (s.setTankStg v).biquadStg = s.biquadStg := rfl
@[simp] theorem State.setTankStg_fdb (s : State) (v : TankRec) : (s.setTankStg v).fdb = s.fdb := rfl
@[simp] theorem State.setTankStg_lfo (s : State) (v : TankRec) : (s.setTankStg v).lfo = s.lfo := rfl
@[simp] theorem State.setTankStg_lfoStg (s : State) (v : TankRec) : (s.setTankStg v).lfoStg = s.lfoStg := rfl
@[simp] theorem State.setTankStg_onepole (s : State) (v : TankRec) : (s.setTankStg v).onepole = s.onepole := rfl
@[simp] theorem State.setTankStg_onepoleStg (s : State) (v : TankRec) : (s.setTankStg v).onepoleStg = s.onepoleStg := rfl
@[simp] theorem State.setTankStg_sdelay (s : State) (v : TankRec) : (s.setTankStg v).sdelay = s.sdelay := rfl
@[simp] theorem State.setTankStg_sdelayStg (s : State) (v : TankRec) : (s.setTankStg v).sdelayStg = s.sdelayStg := rfl
@[simp] theorem State.setTankStg_apf (s : State) (v : TankRec) : (s.setTankStg v).apf = s.apf := rfl
@[simp] theorem State.setTankStg_apfStg (s : State) (v : TankRec) : (s.setTankStg v).apfStg = s.apfStg := rfl
@[simp] theorem State.setTankStg_napf (s : State) (v : TankRec) : (s.setTankStg v).napf = s.napf := rfl
@[simp] theorem State.setTankStg_napfStg (s : State) (v : TankRec) : (s.setTankStg v).napfStg = s.napfStg := rfl
@[simp] theorem State.setTankStg_filter (s : State) (v : TankRec) : (s.setTankStg v).filter = s.filter := rfl
@[simp] theorem State.setTankStg_filterStg (s : State) (v : TankRec) : (s.setTankStg v).filterStg = s.filterStg := rfl
@[simp] theorem State.setTankStg_shelf (s : State) (v : TankRec) : (s.setTankStg v).shelf = s.shelf := rfl
@[simp] theorem State.setTankStg_shelfStg (s : State) (v : TankRec) : (s.setTankStg v).shelfStg = s.shelfStg := rfl
@[simp] theorem State.setTankStg_draws (s : State) (v : TankRec) : (s.setTankStg v).draws = s.draws := rfl
@[simp] theorem State.setTankStg_rx (s : State) (v : TankRec) : (s.setTankStg v).rx = s.rx := rfl
@[simp] theorem State.setTankStg_tx (s : State) (v : TankRec) : (s.setTankStg v).tx = s.tx := rfl

@[simp] theorem State.setBiquad_cfg (s : State) (v : Biquad) : (s.setBiquad v).cfg = s.cfg := rfl
@[simp] theorem State.setBiquad_tank (s : State) (v : Biquad) : (s.setBiquad v).tank = s.tank := rfl
@[simp] theorem State.setBiquad_tankStg (s : State) (v : Biquad) : (s.setBiquad v).tankStg = s.tankStg := rfl
@[simp] theorem State.setBiquad_biquad (s : State) (v : Biquad) : (s.setBiquad v).biquad = v := rfl
@[simp] theorem State.setBiquad_biquadStg (s : State) (v : Biquad) : (s.setBiquad v).biquadStg = s.biquadStg := rfl
@[simp] theorem State.setBiquad_fdb (s : State) (v : Biquad) : (s.setBiquad v).fdb = s.fdb := rfl
@[simp] theorem State.setBiquad_lfo (s : State) (v : Biquad) : (s.setBiquad v).lfo = s.lfo := rfl
@[simp] theorem State.setBiquad_lfoStg (s : State) (v : Biquad) : (s.setBiquad v).lfoStg = s.lfoStg := rfl
@[simp] theorem State.setBiquad_onepole (s : State) (v : Biquad) : (s.setBiquad v).onepole = s.onepole := rfl
@[simp] theorem State.setBiquad_onepoleStg (s : State) (v : Biquad) : (s.setBiquad v).onepoleStg = s.onepoleStg := rfl
@[simp] theorem State.setBiquad_sdelay (s : State) (v : Biquad) : (s.setBiquad v).sdelay = s.sdelay := rfl
@[simp] theorem State.setBiquad_sdelayStg (s : State) (v : Biquad) : (s.setBiquad v).sdelayStg = s.sdelayStg := rfl
@[simp] theorem State.setBiquad_apf (s : State) (v : Biquad) : (s.setBiquad v).apf = s.apf := rfl
@[simp] theorem State.setBiquad_apfStg (s : State) (v : Biquad) : (s.setBiquad v).apfStg = s.apfStg := rfl
@[simp] theorem State.setBiquad_napf (s : State) (v : Biquad) : (s.setBiquad v).napf = s.napf := rfl
@[simp] theorem State.setBiquad_napfStg (s : State) (v : Biquad) : (s.setBiquad v).napfStg = s.napfStg := rfl
@[simp] theorem State.setBiquad_filter (s : State) (v : Biquad) : (s.setBiquad v).filter = s.filter := rfl
@[simp] theorem State.setBiquad_filterStg (s : State) (v : Biquad) : (s.setBiquad v).filterStg = s.filterStg := rfl
@[simp] theorem State.setBiquad_shelf (s : State) (v : Biquad) : (s.setBiquad v).shelf = s.shelf := rfl
@[simp] theorem State.setBiquad_shelfStg (s : State) (v : Biquad) : (s.setBiquad v).shelfStg = s.shelfStg := rfl
@[simp] theorem State.setBiquad_draws (s : State) (v : Biquad) : (s.setBiquad v).draws = s.draws := rfl
@[simp] theorem State.setBiquad_rx (s : State) (v : Biquad) : (s.setBiquad v).rx = s.rx := rfl
@[simp] theorem State.setBiquad_tx (s : State) (v : Biquad) : (s.setBiquad v).tx = s.tx := rfl

@[simp] theorem State.setBiquadStg_cfg (s : State) (v : BiquadRec) : (s.setBiquadStg v).cfg = s.cfg := rfl
@[simp] theorem State.setBiquadStg_tank (s : State) (v : BiquadRec) : (s.setBiquadStg v).tank = s.tank := rfl
@[simp] theorem State.setBiquadStg_tankStg (s : State) (v : BiquadRec) : (s.setBiquadStg v).tankStg = s.tankStg := rfl
@[simp] theorem State.setBiquadStg_biquad (s : State) (v : BiquadRec) : (s.setBiquadStg v).biquad = s.biquad := rfl
@[simp] theorem State.setBiquadStg_biquadStg (s : State) (v : BiquadRec) : (s.setBiquadStg v).biquadStg = v := rfl
@[simp] theorem State.setBiquadStg_fdb (s : State) (v : BiquadRec) : (s.setBiquadStg v).fdb = s.fdb := rfl
@[simp] theorem State.setBiquadStg_lfo (s : State) (v : BiquadRec) : (s.setBiquadStg v).lfo = s.lfo := rfl
@[simp] theorem State.setBiquadStg_lfoStg (s : State) (v : BiquadRec) : (s.setBiquadStg v).lfoStg = s.lfoStg := rfl
@[simp] theorem State.setBiquadStg_onepole (s : State) (v : BiquadRec) : (s.setBiquadStg v).onepole = s.onepole := rfl
@[simp] theorem State.setBiquadStg_onepoleStg (s : State) (v : BiquadRec) : (s.setBiquadStg v).onepoleStg = s.onepoleStg := rfl
@[simp] theorem State.setBiquadStg_sdelay (s : State) (v : BiquadRec) : (s.setBiquadStg v).sdelay = s.sdelay := rfl
@[simp] theorem State.setBiquadStg_sdelayStg (s : State) (v : BiquadRec) : (s.setBiquadStg v).sdelayStg = s.sdelayStg := rfl
@[simp] theorem State.setBiquadStg_apf (s : State) (v : BiquadRec) : (s.setBiquadStg v).apf = s.apf := rfl
@[simp] theorem State.setBiquadStg_apfStg (s : State) (v : BiquadRec) : (s.setBiquadStg v).apfStg = s.apfStg := rfl
@[simp] theorem State.setBiquadStg_napf (s : State) (v : BiquadRec) : (s.setBiquadStg v).napf = s.napf := rfl
@[simp] theorem State.setBiquadStg_napfStg (s : State) (v : BiquadRec) : (s.setBiquadStg v).napfStg = s.napfStg := rfl
@[simp] theorem State.setBiquadStg_filter (s : State) (v : BiquadRec) : (s.setBiquadStg v).filter = s.filter := rfl
@[simp] theorem State.setBiquadStg_filterStg (s : State) (v : BiquadRec) : (s.setBiquadStg v).filterStg = s.filterStg := rfl
@[simp] theorem State.setBiquadStg_shelf (s : State) (v : BiquadRec) : (s.setBiquadStg v).shelf = s.shelf := rfl
@[simp] theorem State.setBiquadStg_shelfStg (s : State) (v : BiquadRec) : (s.setBiquadStg v).shelfStg = s.shelfStg := rfl
@[simp] theorem State.setBiquadStg_draws (s : State) (v : BiquadRec) : (s.setBiquadStg v).draws = s.draws := rfl
@[simp] theorem State.setBiquadStg_rx (s : State) (v : BiquadRec) : (s.setBiquadStg v).rx = s.rx := rfl
@[simp] theorem State.setBiquadStg_tx (s : State) (v : BiquadRec) : (s.setBiquadStg v).tx = s.tx := rfl

@[simp] theorem State.setFdb_cfg (s : State) (v : Fdb) : (s.setFdb v).cfg = s.cfg := rfl
@[simp] theorem State.setFdb_tank (s : State) (v : Fdb) : (s.setFdb v).tank = s.tank := rfl
@[simp] theorem State.setFdb_tankStg (s : State) (v : Fdb) : (s.setFdb v).tankStg = s.tankStg := rfl
@[simp] theorem State.setFdb_biquad (s : State) (v : Fdb) : (s.setFdb v).biquad = s.biquad := rfl
@[simp] theorem State.setFdb_biquadStg (s : State) (v : Fdb) : (s.setFdb v).biquadStg = s.biquadStg := rfl
@[simp] theorem State.setFdb_fdb (s : State) (v : Fdb) : (s.setFdb v).fdb = v := rfl
@[simp] theorem State.setFdb_lfo (s : State) (v : Fdb) : (s.setFdb v).lfo = s.lfo := rfl
@[simp] theorem State.setFdb_lfoStg (s : State) (v : Fdb) : (s.setFdb v).lfoStg = s.lfoStg := rfl
@[simp] theorem State.setFdb_onepole (s : State) (v : Fdb) : (s.setFdb v).onepole = s.onepole := rfl
@[simp] theorem State.setFdb_onepoleStg (s : State) (v : Fdb) : (s.setFdb v).onepoleStg = s.onepoleStg := rfl
@[simp] theorem State.setFdb_sdelay (s : State) (v : Fdb) : (s.setFdb v).sdelay = s.sdelay := rfl
@[simp] theorem State.setFdb_sdelayStg (s : State) (v : Fdb) : (s.setFdb v).sdelayStg = s.sdelayStg := rfl
@[simp] theorem State.setFdb_apf (s : State) (v : Fdb) : (s.setFdb v).apf = s.apf := rfl
@[simp] theorem State.setFdb_apfStg (s : State) (v : Fdb) : (s.setFdb v).apfStg = s.apfStg := rfl
@[simp] theorem State.setFdb_napf (s : State) (v : Fdb) : (s.setFdb v).napf = s.napf := rfl
@[simp] theorem State.setFdb_napfStg (s : State) (v : Fdb) : (s.setFdb v).napfStg = s.napfStg := rfl
@[simp] theorem State.setFdb_filter (s : State) (v : Fdb) : (s.setFdb v).filter = s.filter := rfl
@[simp] theorem State.setFdb_filterStg (s : State) (v : Fdb) : (s.setFdb v).filterStg = s.filterStg := rfl
@[simp] theorem State.setFdb_shelf (s : State) (v : Fdb) : (s.setFdb v).shelf = s.shelf := rfl
@[simp] theorem State.setFdb_shelfStg (s : State) (v : Fdb) : (s.setFdb v).shelfStg = s.shelfStg := rfl
@[simp] theorem State.setFdb_draws (s : State) (v : Fdb) : (s.setFdb v).draws = s.draws := rfl
@[simp] theorem State.setFdb_rx (s : State) (v : Fdb) : (s.setFdb v).rx = s.rx := rfl
@[simp] theorem State.setFdb_tx (s : State) (v : Fdb) : (s.setFdb v).tx = s.tx := rfl

@[simp] theorem State.setLfo_cfg (s : State) (v : Lfo) : (s.setLfo v).cfg = s.cfg := rfl
@[simp] theorem State.setLfo_tank (s : State) (v : Lfo) : (s.setLfo v).tank = s.tank := rfl
@[simp] theorem State.setLfo_tankStg (s : State) (v : Lfo) : (s.setLfo v).tankStg = s.tankStg := rfl
@[simp] theorem State.setLfo_biquad (s : State) (v : Lfo) : (s.setLfo v).biquad = s.biquad := rfl
@[simp] theorem State.setLfo_biquadStg (s : State) (v : Lfo) : (s.setLfo v).biquadStg = s.biquadStg := rfl
@[simp] theorem State.setLfo_fdb (s : State) (v : Lfo) : (s.setLfo v).fdb = s.fdb := rfl
@[simp] theorem State.setLfo_lfo (s : State) (v : Lfo) : (s.setLfo v).lfo = v := rfl
@[simp] theorem State.setLfo_lfoStg (s : State) (v : Lfo) : (s.setLfo v).lfoStg = s.lfoStg := rfl
@[simp] theorem State.setLfo_onepole (s : State) (v : Lfo) : (s.setLfo v).onepole = s.onepole := rfl
@[simp] theorem State.setLfo_onepoleStg (s : State) (v : Lfo) : (s.setLfo v).onepoleStg = s.onepoleStg := rfl
@[simp] theorem State.setLfo_sdelay (s : State) (v : Lfo) : (s.setLfo v).sdelay = s.sdelay := rfl
@[simp] theorem State.setLfo_sdelayStg (s : State) (v : Lfo) : (s.setLfo v).sdelayStg = s.sdelayStg := rfl
@[simp] theorem State.setLfo_apf (s : State) (v : Lfo) : (s.setLfo v).apf = s.apf := rfl
@[simp] theorem State.setLfo_apfStg (s : State) (v : Lfo) : (s.setLfo v).apfStg = s.apfStg := rfl
@[simp] theorem State.setLfo_napf (s : State) (v : Lfo) : (s.setLfo v).napf = s.napf := rfl
@[simp] theorem State.setLfo_napfStg (s : State) (v : Lfo) : (s.setLfo v).napfStg = s.napfStg := rfl
@[simp] theorem State.setLfo_filter (s : State) (v : Lfo) : (s.setLfo v).filter = s.filter := rfl
@[simp] theorem State.setLfo_filterStg (s : State) (v : Lfo) : (s.setLfo v).filterStg = s.filterStg := rfl
@[simp] theorem State.setLfo_shelf (s : State) (v : Lfo) : (s.setLfo v).shelf = s.shelf := rfl
@[simp] theorem State.setLfo_shelfStg (s : State) (v : Lfo) : (s.setLfo v).shelfStg = s.shelfStg := rfl
@[simp] theorem State.setLfo_draws (s : State) (v : Lfo) : (s.setLfo v).draws = s.draws := rfl
@[simp] theorem State.setLfo_rx (s : State) (v : Lfo) : (s.setLfo v).rx = s.rx := rfl
@[simp] theorem State.setLfo_tx (s : State) (v : Lfo) : (s.setLfo v).tx = s.tx := rfl

@[simp] theorem State.setLfoStg_cfg (s : State) (v : LfoRec) : (s.setLfoStg v).cfg = s.cfg := rfl
@[simp] theorem State.setLfoStg_tank (s : State) (v : LfoRec) : (s.setLfoStg v).tank = s.tank := rfl
@[simp] theorem State.setLfoStg_tankStg (s : State) (v : LfoRec) : (s.setLfoStg v).tankStg = s.tankStg := rfl
@[simp] theorem State.setLfoStg_biquad (s : State) (v : LfoRec) : (s.setLfoStg v).biquad = s.biquad := rfl
@[simp] theorem State.setLfoStg_biquadStg (s : State) (v : LfoRec) : (s.setLfoStg v).biquadStg = s.biquadStg := rfl
@[simp] theorem State.setLfoStg_fdb (s : State) (v : LfoRec) : (s.setLfoStg v).fdb = s.fdb := rfl
@[simp] theorem State.setLfoStg_lfo (s : State) (v : LfoRec) : (s.setLfoStg v).lfo = s.lfo := rfl
@[simp] theorem State.setLfoStg_lfoStg (s : State) (v : LfoRec) : (s.setLfoStg v).lfoStg = v := rfl
@[simp] theorem State.setLfoStg_onepole (s : State) (v : LfoRec) : (s.setLfoStg v).onepole = s.onepole := rfl
@[simp] theorem State.setLfoStg_onepoleStg (s : State) (v : LfoRec) : (s.setLfoStg v).onepoleStg = s.onepoleStg := rfl
@[simp] theorem State.setLfoStg_sdelay (s : State) (v : LfoRec) : (s.setLfoStg v).sdelay = s.sdelay := rfl
@[simp] theorem State.setLfoStg_sdelayStg (s : State) (v : LfoRec) : (s.setLfoStg v).sdelayStg = s.sdelayStg := rfl
@[simp] theorem State.setLfoStg_apf (s : State) (v : LfoRec) : (s.setLfoStg v).apf = s.apf := rfl
@[simp] theorem State.setLfoStg_apfStg (s : State) (v : LfoRec) : (s.setLfoStg v).apfStg = s.apfStg := rfl
@[simp] theorem State.setLfoStg_napf (s : State) (v : LfoRec) : (s.setLfoStg v).napf = s.napf := rfl
@[simp] theorem State.setLfoStg_napfStg (s : State) (v : LfoRec) : (s.setLfoStg v).napfStg = s.napfStg := rfl
@[simp] theorem State.setLfoStg_filter (s : State) (v : LfoRec) : (s.setLfoStg v).filter = s.filter := rfl
@[simp] theorem State.setLfoStg_filterStg (s : State) (v : LfoRec) : (s.setLfoStg v).filterStg = s.filterStg := rfl
@[simp] theorem State.setLfoStg_shelf (s : State) (v : LfoRec) : (s.setLfoStg v).shelf = s.shelf := rfl
@[simp] theorem State.setLfoStg_shelfStg (s : State) (v : LfoRec) : (s.setLfoStg v).shelfStg = s.shelfStg := rfl
@[simp] theorem State.setLfoStg_draws (s : State) (v : LfoRec) : (s.setLfoStg v).draws = s.draws := rfl
@[simp] theorem State.setLfoStg_rx (s : State) (v : LfoRec) : (s.setLfoStg v).rx = s.rx := rfl
@[simp] theorem State.setLfoStg_tx (s : State) (v : LfoRec) : (s.setLfoStg v).tx = s.tx := rfl

@[simp] theorem State.setOnepole_cfg (s : State) (v : OnePole) : (s.setOnepole v).cfg = s.cfg := rfl
@[simp] theorem State.setOnepole_tank (s : State) (v : OnePole) : (s.setOnepole v).tank = s.tank := rfl
@[simp] theorem State.setOnepole_tankStg (s : State) (v : OnePole) : (s.setOnepole v).tankStg = s.tankStg := rfl
@[simp] theorem State.setOnepole_biquad (s : State) (v : OnePole) : (s.setOnepole v).biquad = s.biquad := rfl
@[simp] theorem State.setOnepole_biquadStg (s : State) (v : OnePole) : (s.setOnepole v).biquadStg = s.biquadStg := rfl
@[simp] theorem State.setOnepole_fdb (s : State) (v : OnePole) : (s.setOnepole v).fdb = s.fdb := rfl
@[simp] theorem State.setOnepole_lfo (s : State) (v : OnePole) : (s.setOnepole v).lfo = s.lfo := rfl
@[simp] theorem State.setOnepole_lfoStg (s : State) (v : OnePole) : (s.setOnepole v).lfoStg = s.lfoStg := rfl
@[simp] theorem State.setOnepole_onepole (s : State) (v : OnePole) : (s.setOnepole v).onepole = v := rfl
@[simp] theorem State.setOnepole_onepoleStg (s : State) (v : OnePole) : (s.setOnepole v).onepoleStg = s.onepoleStg := rfl
@[simp] theorem State.setOnepole_sdelay (s : State) (v : OnePole) : (s.setOnepole v).sdelay = s.sdelay := rfl
@[simp] theorem State.setOnepole_sdelayStg (s : State) (v : OnePole) : (s.setOnepole v).sdelayStg = s.sdelayStg := rfl
@[simp] theorem State.setOnepole_apf (s : State) (v : OnePole) : (s.setOnepole v).apf = s.apf := rfl
@[simp] theorem State.setOnepole_apfStg (s : State) (v : OnePole) : (s.setOnepole v).apfStg = s.apfStg := rfl
@[simp] theorem State.setOnepole_napf (s : State) (v : OnePole) : (s.setOnepole v).napf = s.napf := rfl
@[simp] theorem State.setOnepole_napfStg (s : State) (v : OnePole) : (s.setOnepole v).napfStg = s.napfStg := rfl
@[simp] theorem State.setOnepole_filter (s : State) (v : OnePole) : (s.setOnepole v).filter = s.filter := rfl
@[simp] theorem State.setOnepole_filterStg (s : State) (v : OnePole) : (s.setOnepole v).filterStg = s.filterStg := rfl
@[simp] theorem State.setOnepole_shelf (s : State) (v : OnePole) : (s.setOnepole v).shelf = s.shelf := rfl
@[simp] theorem State.setOnepole_shelfStg (s : State) (v : OnePole) : (s.setOnepole v).shelfStg = s.shelfStg := rfl
@[simp] theorem State.setOnepole_draws (s : State) (v : OnePole) : (s.setOnepole v).draws = s.draws := rfl
@[simp] theorem State.setOnepole_rx (s : State) (v : OnePole) : (s.setOnepole v).rx = s.rx := rfl
@[simp] theorem State.setOnepole_tx (s : State) (v : OnePole) : (s.setOnepole v).tx = s.tx := rfl

@[simp] theorem State.setOnepoleStg_cfg (s : State) (v : OnePoleRec) : (s.setOnepoleStg v).cfg = s.cfg := rfl
@[simp] theorem State.setOnepoleStg_tank (s : State) (v : OnePoleRec) : (s.setOnepoleStg v).tank = s.tank := rfl
@[simp] theorem State.setOnepoleStg_tankStg (s : State) (v : OnePoleRec) : (s.setOnepoleStg v).tankStg = s.tankStg := rfl
@[simp] theorem State.setOnepoleStg_biquad (s : State) (v : OnePoleRec) : (s.setOnepoleStg v).biquad = s.biquad := rfl
@[simp] theorem State.setOnepoleStg_biquadStg (s : State) (v : OnePoleRec) : (s.setOnepoleStg v).biquadStg = s.biquadStg := rfl
@[simp] theorem State.setOnepoleStg_fdb (s : State) (v : OnePoleRec) : (s.setOnepoleStg v).fdb = s.fdb := rfl
@[simp] theorem State.setOnepoleStg_lfo (s : State) (v : OnePoleRec) : (s.setOnepoleStg v).lfo = s.lfo := rfl
@[simp] theorem State.setOnepoleStg_lfoStg (s : State) (v : OnePoleRec) : (s.setOnepoleStg v).lfoStg = s.lfoStg := rfl
@[simp] theorem State.setOnepoleStg_onepole (s : State) (v : OnePoleRec) : (s.setOnepoleStg v).onepole = s.onepole := rfl
@[simp] theorem State.setOnepoleStg_onepoleStg (s : State) (v : OnePoleRec) : (s.setOnepoleStg v).onepoleStg = v := rfl
@[simp] theorem State.setOnepoleStg_sdelay (s : State) (v : OnePoleRec) : (s.setOnepoleStg v).sdelay = s.sdelay := rfl
@[simp] theorem State.setOnepoleStg_sdelayStg (s : State) (v : OnePoleRec) : (s.setOnepoleStg v).sdelayStg = s.sdelayStg := rfl
@[simp] theorem State.setOnepoleStg_apf (s : State) (v : OnePoleRec) : (s.setOnepoleStg v).apf = s.apf := rfl
@[simp] theorem State.setOnepoleStg_apfStg (s : State) (v : OnePoleRec) : (s.setOnepoleStg v).apfStg = s.apfStg := rfl
@[simp] theorem State.setOnepoleStg_napf (s : State) (v : OnePoleRec) : (s.setOnepoleStg v).napf = s.napf := rfl
@[simp] theorem State.setOnepoleStg_napfStg (s : State) (v : OnePoleRec) : (s.setOnepoleStg v).napfStg = s.napfStg := rfl
@[simp] theorem State.setOnepoleStg_filter (s : State) (v : OnePoleRec) : (s.setOnepoleStg v).filter = s.filter := rfl
@[simp] theorem State.setOnepoleStg_filterStg (s : State) (v : OnePoleRec) : (s.setOnepoleStg v).filterStg = s.filterStg := rfl
@[simp] theorem State.setOnepoleStg_shelf (s : State) (v : OnePoleRec) : (s.setOnepoleStg v).shelf = s.shelf := rfl
@[simp] theorem State.setOnepoleStg_shelfStg (s : State) (v : OnePoleRec) : (s.setOnepoleStg v).shelfStg = s.shelfStg := rfl
@[simp] theorem State.setOnepoleStg_draws (s : State) (v : OnePoleRec) : (s.setOnepoleStg v).draws = s.draws := rfl
@[simp] theorem State.setOnepoleStg_rx (s : State) (v : OnePoleRec) : (s.setOnepoleStg v).rx = s.rx := rfl
@[simp] theorem State.setOnepoleStg_tx (s : State) (v : OnePoleRec) : (s.setOnepoleStg v).tx = s.tx := rfl

@[simp] theorem State.setSdelay_cfg (s : State) (v : SDelay) : (s.setSdelay v).cfg = s.cfg := rfl
@[simp] theorem State.setSdelay_tank (s : State) (v : SDelay) : (s.setSdelay v).tank = s.tank := rfl
@[simp] theorem State.setSdelay_tankStg (s : State) (v : SDelay) : (s.setSdelay v).tankStg = s.tankStg := rfl
@[simp] theorem State.setSdelay_biquad (s : State) (v : SDelay) : (s.setSdelay v).biquad = s.biquad := rfl
@[simp] theorem State.setSdelay_biquadStg (s : State) (v : SDelay) : (s.setSdelay v).biquadStg = s.biquadStg := rfl
@[simp] theorem State.setSdelay_fdb (s : State) (v : SDelay) : (s.setSdelay v).fdb = s.fdb := rfl
@[simp] theorem State.setSdelay_lfo (s : State) (v : SDelay) : (s.setSdelay v).lfo = s.lfo := rfl
@[simp] theorem State.setSdelay_lfoStg (s : State) (v : SDelay) : (s.setSdelay v).lfoStg = s.lfoStg := rfl
@[simp] theorem State.setSdelay_onepole (s : State) (v : SDelay) : (s.setSdelay v).onepole = s.onepole := rfl
@[simp] theorem State.setSdelay_onepoleStg (s : State) (v : SDelay) : (s.setSdelay v).onepoleStg = s.onepoleStg := rfl
@[simp] theorem State.setSdelay_sdelay (s : State) (v : SDelay) : (s.setSdelay v).sdelay = v := rfl
@[simp] theorem State.setSdelay_sdelayStg (s : State) (v : SDelay) : (s.setSdelay v).sdelayStg = s.sdelayStg := rfl
@[simp] theorem State.setSdelay_apf (s : State) (v : SDelay) : (s.setSdelay v).apf = s.apf := rfl
@[simp] theorem State.setSdelay_apfStg (s : State) (v : SDelay) : (s.setSdelay v).apfStg = s.apfStg := rfl
@[simp] theorem State.setSdelay_napf (s : State) (v : SDelay) : (s.setSdelay v).napf = s.napf := rfl
@[simp] theorem State.setSdelay_napfStg (s : State) (v : SDelay) : (s.setSdelay v).napfStg = s.napfStg := rfl
@[simp] theorem State.setSdelay_filter (s : State) (v : SDelay) : (s.setSdelay v).filter = s.filter := rfl
@[simp] theorem State.setSdelay_filterStg (s : State) (v : SDelay) : (s.setSdelay v).filterStg = s.filterStg := rfl
@[simp] theorem State.setSdelay_shelf (s : State) (v : SDelay) : (s.setSdelay v).shelf = s.shelf := rfl
@[simp] theorem State.setSdelay_shelfStg (s : State) (v : SDelay) : (s.setSdelay v).shelfStg = s.shelfStg := rfl
@[simp] theorem State.setSdelay_draws (s : State) (v : SDelay) : (s.setSdelay v).draws = s.draws := rfl
@[simp] theorem State.setSdelay_rx (s : State) (v : SDelay) : (s.setSdelay v).rx = s.rx := rfl
@[simp] theorem State.setSdelay_tx (s : State) (v : SDelay) : (s.setSdelay v).tx = s.tx := rfl

@[simp] theorem State.setSdelayStg_cfg (s : State) (v : SDelayRec) : (s.setSdelayStg v).cfg = s.cfg := rfl
@[simp] theorem State.setSdelayStg_tank (s : State) (v : SDelayRec) : (s.setSdelayStg v).tank = s.tank := rfl
@[simp] theorem State.setSdelayStg_tankStg (s : State) (v : SDelayRec) : (s.setSdelayStg v).tankStg = s.tankStg := rfl
@[simp] theorem State.setSdelayStg_biquad (s : State) (v : SDelayRec) : (s.setSdelayStg v).biquad = s.biquad := rfl
@[simp] theorem State.setSdelayStg_biquadStg (s : State) (v : SDelayRec) : (s.setSdelayStg v).biquadStg = s.biquadStg := rfl
@[simp] theorem State.setSdelayStg_fdb (s : State) (v : SDelayRec) : (s.setSdelayStg v).fdb = s.fdb := rfl
@[simp] theorem State.setSdelayStg_lfo (s : State) (v : SDelayRec) : (s.setSdelayStg v).lfo = s.lfo := rfl
@[simp] theorem State.setSdelayStg_lfoStg (s : State) (v : SDelayRec) : (s.setSdelayStg v).lfoStg = s.lfoStg := rfl
@[simp] theorem State.setSdelayStg_onepole (s : State) (v : SDelayRec) : (s.setSdelayStg v).onepole = s.onepole := rfl
@[simp] theorem State.setSdelayStg_onepoleStg (s : State) (v : SDelayRec) : (s.setSdelayStg v).onepoleStg = s.onepoleStg := rfl
@[simp] theorem State.setSdelayStg_sdelay (s : State) (v : SDelayRec) : (s.setSdelayStg v).sdelay = s.sdelay := rfl
@[simp] theorem State.setSdelayStg_sdelayStg (s : State) (v : SDelayRec) : (s.setSdelayStg v).sdelayStg = v := rfl
@[simp] theorem State.setSdelayStg_apf (s : State) (v : SDelayRec) : (s.setSdelayStg v).apf = s.apf := rfl
@[simp] theorem State.setSdelayStg_apfStg (s : State) (v : SDelayRec) : (s.setSdelayStg v).apfStg = s.apfStg := rfl
@[simp] theorem State.setSdelayStg_napf (s : State) (v : SDelayRec) : (s.setSdelayStg v).napf = s.napf := rfl
@[simp] theorem State.setSdelayStg_napfStg (s : State) (v : SDelayRec) : (s.setSdelayStg v).napfStg = s.napfStg := rfl
@[simp] theorem State.setSdelayStg_filter (s : State) (v : SDelayRec) : (s.setSdelayStg v).filter = s.filter := rfl
@[simp] theorem State.setSdelayStg_filterStg (s : State) (v : SDelayRec) : (s.setSdelayStg v).filterStg = s.filterStg := rfl
@[simp] theorem State.setSdelayStg_shelf (s : State) (v : SDelayRec) : (s.setSdelayStg v).shelf = s.shelf := rfl
@[simp] theorem State.setSdelayStg_shelfStg (s : State) (v : SDelayRec) : (s.setSdelayStg v).shelfStg = s.shelfStg := rfl
@[simp] theorem State.setSdelayStg_draws (s : State) (v : SDelayRec) : (s.setSdelayStg v).draws = s.draws := rfl
@[simp] theorem State.setSdelayStg_rx (s : State) (v : SDelayRec) : (s.setSdelayStg v).rx = s.rx := rfl
@[simp] theorem State.setSdelayStg_tx (s : State) (v : SDelayRec) : (s.setSdelayStg v).tx = s.tx := rfl

@[simp] theorem State.setApf_cfg (s : State) (v : Apf) : (s.setApf v).cfg = s.cfg := rfl
@[simp] theorem State.setApf_tank (s : State) (v : Apf) : (s.setApf v).tank = s.tank := rfl
@[simp] theorem State.setApf_tankStg (s : State) (v : Apf) : (s.setApf v).tankStg = s.tankStg := rfl
@[simp] theorem State.setApf_biquad (s : State) (v : Apf) : (s.setApf v).biquad = s.biquad := rfl
@[simp] theorem State.setApf_biquadStg (s : State) (v : Apf) : (s.setApf v).biquadStg = s.biquadStg := rfl
@[simp] theorem State.setApf_fdb (s : State) (v : Apf) : (s.setApf v).fdb = s.fdb := rfl
@[simp] theorem State.setApf_lfo (s : State) (v : Apf) : (s.setApf v).lfo = s.lfo := rfl
@[simp] theorem State.setApf_lfoStg (s : State) (v : Apf) : (s.setApf v).lfoStg = s.lfoStg := rfl
@[simp] theorem State.setApf_onepole (s : State) (v : Apf) : (s.setApf v).onepole = s.onepole := rfl
@[simp] theorem State.setApf_onepoleStg (s : State) (v : Apf) : (s.setApf v).onepoleStg = s.onepoleStg := rfl
@[simp] theorem State.setApf_sdelay (s : State) (v : Apf) : (s.setApf v).sdelay = s.sdelay := rfl
@[simp] theorem State.setApf_sdelayStg (s : State) (v : Apf) : (s.setApf v).sdelayStg = s.sdelayStg := rfl
@[simp] theorem State.setApf_apf (s : State) (v : Apf) : (s.setApf v).apf = v := rfl
@[simp] theorem State.setApf_apfStg (s : State) (v : Apf) : (s.setApf v).apfStg = s.apfStg := rfl
@[simp] theorem State.setApf_napf (s : State) (v : Apf) : (s.setApf v).napf = s.napf := rfl
@[simp] theorem State.setApf_napfStg (s : State) (v : Apf) : (s.setApf v).napfStg = s.napfStg := rfl
@[simp] theorem State.setApf_filter (s : State) (v : Apf) : (s.setApf v).filter = s.filter := rfl
@[simp] theorem State.setApf_filterStg (s : State) (v : Apf) : (s.setApf v).filterStg = s.filterStg := rfl
@[simp] theorem State.setApf_shelf (s : State) (v : Apf) : (s.setApf v).shelf = s.shelf := rfl
@[simp] theorem State.setApf_shelfStg (s : State) (v : Apf) : (s.setApf v).shelfStg = s.shelfStg := rfl
@[simp] theorem State.setApf_draws (s : State) (v : Apf) : (s.setApf v).draws = s.draws := rfl
@[simp] theorem State.setApf_rx (s : State) (v : Apf) : (s.setApf v).rx = s.rx := rfl
@[simp] theorem State.setApf_tx (s : State) (v : Apf) : (s.setApf v).tx = s.tx := rfl

@[simp] theorem State.setApfStg_cfg (s : State) (v : ApfRec) : (s.setApfStg v).cfg = s.cfg := rfl
@[simp] theorem State.setApfStg_tank (s : State) (v : ApfRec) : (s.setApfStg v).tank = s.tank := rfl
@[simp] theorem State.setApfStg_tankStg (s : State) (v : ApfRec) : (s.setApfStg v).tankStg = s.tankStg := rfl
@[simp] theorem State.setApfStg_biquad (s : State) (v : ApfRec) : (s.setApfStg v).biquad = s.biquad := rfl
@[simp] theorem State.setApfStg_biquadStg (s : State) (v : ApfRec) : (s.setApfStg v).biquadStg = s.biquadStg := rfl
@[simp] theorem State.setApfStg_fdb (s : State) (v : ApfRec) : (s.setApfStg v).fdb = s.fdb := rfl
@[simp] theorem State.setApfStg_lfo (s : State) (v : ApfRec) : (s.setApfStg v).lfo = s.lfo := rfl
@[simp] theorem State.setApfStg_lfoStg (s : State) (v : ApfRec) : (s.setApfStg v).lfoStg = s.lfoStg := rfl
@[simp] theorem State.setApfStg_onepole (s : State) (v : ApfRec) : (s.setApfStg v).onepole = s.onepole := rfl
@[simp] theorem State.setApfStg_onepoleStg (s : State) (v : ApfRec) : (s.setApfStg v).onepoleStg = s.onepoleStg := rfl
@[simp] theorem State.setApfStg_sdelay (s : State) (v : ApfRec) : (s.setApfStg v).sdelay = s.sdelay := rfl
@[simp] theorem State.setApfStg_sdelayStg (s : State) (v : ApfRec) : (s.setApfStg v).sdelayStg = s.sdelayStg := rfl
@[simp] theorem State.setApfStg_apf (s : State) (v : ApfRec) : (s.setApfStg v).apf = s.apf := rfl
@[simp] theorem State.setApfStg_apfStg (s : State) (v : ApfRec) : (s.setApfStg v).apfStg = v := rfl
@[simp] theorem State.setApfStg_napf (s : State) (v : ApfRec) : (s.setApfStg v).napf = s.napf := rfl
@[simp] theorem State.setApfStg_napfStg (s : State) (v : ApfRec) : (s.setApfStg v).napfStg = s.napfStg := rfl
@[simp] theorem State.setApfStg_filter (s : State) (v : ApfRec) : (s.setApfStg v).filter = s.filter := rfl
@[simp] theorem State.setApfStg_filterStg (s : State) (v : ApfRec) : (s.setApfStg v).filterStg = s.filterStg := rfl
@[simp] theorem State.setApfStg_shelf (s : State) (v : ApfRec) : (s.setApfStg v).shelf = s.shelf := rfl
@[simp] theorem State.setApfStg_shelfStg (s : State) (v : ApfRec) : (s.setApfStg v).shelfStg = s.shelfStg := rfl
@[simp] theorem State.setApfStg_draws (s : State) (v : ApfRec) : (s.setApfStg v).draws = s.draws := rfl
@[simp] theorem State.setApfStg_rx (s : State) (v : ApfRec) : (s.setApfStg v).rx = s.rx := rfl
@[simp] theorem State.setApfStg_tx (s : State) (v : ApfRec) : (s.setApfStg v).tx = s.tx := rfl

@[simp] theorem State.setNapf_cfg (s : State) (v : Napf) : (s.setNapf v).cfg = s.cfg := rfl
@[simp] theorem State.setNapf_tank (s : State) (v : Napf) : (s.setNapf v).tank = s.tank := rfl
@[simp] theorem State.setNapf_tankStg (s : State) (v : Napf) : (s.setNapf v).tankStg = s.tankStg := rfl
@[simp] theorem State.setNapf_biquad (s : State) (v : Napf) : (s.setNapf v).biquad = s.biquad := rfl
@[simp] theorem State.setNapf_biquadStg (s : State) (v : Napf) : (s.setNapf v).biquadStg = s.biquadStg := rfl
@[simp] theorem State.setNapf_fdb (s : State) (v : Napf) : (s.setNapf v).fdb = s.fdb := rfl
@[simp] theorem State.setNapf_lfo (s : State) (v : Napf) : (s.setNapf v).lfo = s.lfo := rfl
@[simp] theorem State.setNapf_lfoStg (s : State) (v : Napf) : (s.setNapf v).lfoStg = s.lfoStg := rfl
@[simp] theorem State.setNapf_onepole (s : State) (v : Napf) : (s.setNapf v).onepole = s.onepole := rfl
@[simp] theorem State.setNapf_onepoleStg (s : State) (v : Napf) : (s.setNapf v).onepoleStg = s.onepoleStg := rfl
@[simp] theorem State.setNapf_sdelay (s : State) (v : Napf) : (s.setNapf v).sdelay = s.sdelay := rfl
@[simp] theorem State.setNapf_sdelayStg (s : State) (v : Napf) : (s.setNapf v).sdelayStg = s.sdelayStg := rfl
@[simp] theorem State.setNapf_apf (s : State) (v : Napf) : (s.setNapf v).apf = s.apf := rfl
@[simp] theorem State.setNapf_apfStg (s : State) (v : Napf) : (s.setNapf v).apfStg = s.apfStg := rfl
@[simp] theorem State.setNapf_napf (s : State) (v : Napf) : (s.setNapf v).napf = v := rfl
@[simp] theorem State.setNapf_napfStg (s : State) (v : Napf) : (s.setNapf v).napfStg = s.napfStg := rfl
@[simp] theorem State.setNapf_filter (s : State) (v : Napf) : (s.setNapf v).filter = s.filter := rfl
@[simp] theorem State.setNapf_filterStg (s : State) (v : Napf) : (s.setNapf v).filterStg = s.filterStg := rfl
@[simp] theorem State.setNapf_shelf (s : State) (v : Napf) : (s.setNapf v).shelf = s.shelf := rfl
@[simp] theorem State.setNapf_shelfStg (s : State) (v : Napf) : (s.setNapf v).shelfStg = s.shelfStg := rfl
@[simp] theorem State.setNapf_draws (s : State) (v : Napf) : (s.setNapf v).draws = s.draws := rfl
@[simp] theorem State.setNapf_rx (s : State) (v : Napf) : (s.setNapf v).rx = s.rx := rfl
@[simp] theorem State.setNapf_tx (s : State) (v : Napf) : (s.setNapf v).tx = s.tx := rfl

@[simp] theorem State.setNapfStg_cfg (s : State) (v : NapfRec) : (s.setNapfStg v).cfg = s.cfg := rfl
@[simp] theorem State.setNapfStg_tank (s : State) (v : NapfRec) : (s.setNapfStg v).tank = s.tank := rfl
@[simp] theorem State.setNapfStg_tankStg (s : State) (v : NapfRec) : (s.setNapfStg v).tankStg = s.tankStg := rfl
@[simp] theorem State.setNapfStg_biquad (s : State) (v : NapfRec) : (s.setNapfStg v).biquad = s.biquad := rfl
@[simp] theorem State.setNapfStg_biquadStg (s : State) (v : NapfRec) : (s.setNapfStg v).biquadStg = s.biquadStg := rfl
@[simp] theorem State.setNapfStg_fdb (s : State) (v : NapfRec) : (s.setNapfStg v).fdb = s.fdb := rfl
@[simp] theorem State.setNapfStg_lfo (s : State) (v : NapfRec) : (s.setNapfStg v).lfo = s.lfo := rfl
@[simp] theorem State.setNapfStg_lfoStg (s : State) (v : NapfRec) : (s.setNapfStg v).lfoStg = s.lfoStg := rfl
@[simp] theorem State.setNapfStg_onepole (s : State) (v : NapfRec) : (s.setNapfStg v).onepole = s.onepole := rfl
@[simp] theorem State.setNapfStg_onepoleStg (s : State) (v : NapfRec) : (s.setNapfStg v).onepoleStg = s.onepoleStg := rfl
@[simp] theorem State.setNapfStg_sdelay (s : State) (v : NapfRec) : (s.setNapfStg v).sdelay = s.sdelay := rfl
@[simp] theorem State.setNapfStg_sdelayStg (s : State) (v : NapfRec) : (s.setNapfStg v).sdelayStg = s.sdelayStg := rfl
@[simp] theorem State.setNapfStg_apf (s : State) (v : NapfRec) : (s.setNapfStg v).apf = s.apf := rfl
@[simp] theorem State.setNapfStg_apfStg (s : State) (v : NapfRec) : (s.setNapfStg v).apfStg = s.apfStg := rfl
@[simp] theorem State.setNapfStg_napf (s : State) (v : NapfRec) : (s.setNapfStg v).napf = s.napf := rfl
@[simp] theorem State.setNapfStg_napfStg (s : State) (v : NapfRec) : (s.setNapfStg v).napfStg = v := rfl
@[simp] theorem State.setNapfStg_filter (s : State) (v : NapfRec) : (s.setNapfStg v).filter = s.filter := rfl
@[simp] theorem State.setNapfStg_filterStg (s : State) (v : NapfRec) : (s.setNapfStg v).filterStg = s.filterStg := rfl
@[simp] theorem State.setNapfStg_shelf (s : State) (v : NapfRec) : (s.setNapfStg v).shelf = s.shelf := rfl
@[simp] theorem State.setNapfStg_shelfStg (s : State) (v : NapfRec) : (s.setNapfStg v).shelfStg = s.shelfStg := rfl
@[simp] theorem State.setNapfStg_draws (s : State) (v : NapfRec) : (s.setNapfStg v).draws = s.draws := rfl
@[simp] theorem State.setNapfStg_rx (s : State) (v : NapfRec) : (s.setNapfStg v).rx = s.rx := rfl
@[simp] theorem State.setNapfStg_tx (s : State) (v : NapfRec) : (s.setNapfStg v).tx = s.tx := rfl

@[simp] theorem State.setFilter_cfg (s : State) (v : Filter) : (s.setFilter v).cfg = s.cfg := rfl
@[simp] theorem State.setFilter_tank (s : State) (v : Filter) : (s.setFilter v).tank = s.tank := rfl
@[simp] theorem State.setFilter_tankStg (s : State) (v : Filter) : (s.setFilter v).tankStg = s.tankStg := rfl
@[simp] theorem State.setFilter_biquad (s : State) (v : Filter) : (s.setFilter v).biquad = s.biquad := rfl
@[simp] theorem State.setFilter_biquadStg (s : State) (v : Filter) : (s.setFilter v).biquadStg = s.biquadStg := rfl
@[simp] theorem State.setFilter_fdb (s : State) (v : Filter) : (s.setFilter v).fdb = s.fdb := rfl
@[simp] theorem State.setFilter_lfo (s : State) (v : Filter) : (s.setFilter v).lfo = s.lfo := rfl
@[simp] theorem State.setFilter_lfoStg (s : State) (v : Filter) : (s.setFilter v).lfoStg = s.lfoStg := rfl
@[simp] theorem State.setFilter_onepole (s : State) (v : Filter) : (s.setFilter v).onepole = s.onepole := rfl
@[simp] theorem State.setFilter_onepoleStg (s : State) (v : Filter) : (s.setFilter v).onepoleStg = s.onepoleStg := rfl
@[simp] theorem State.setFilter_sdelay (s : State) (v : Filter) : (s.setFilter v).sdelay = s.sdelay := rfl
@[simp] theorem State.setFilter_sdelayStg (s : State) (v : Filter) : (s.setFilter v).sdelayStg = s.sdelayStg := rfl
@[simp] theorem State.setFilter_apf (s : State) (v : Filter) : (s.setFilter v).apf = s.apf := rfl
@[simp] theorem State.setFilter_apfStg (s : State) (v : Filter) : (s.setFilter v).apfStg = s.apfStg := rfl
@[simp] theorem State.setFilter_napf (s : State) (v : Filter) : (s.setFilter v).napf = s.napf := rfl
@[simp] theorem State.setFilter_napfStg (s : State) (v : Filter) : (s.setFilter v).napfStg = s.napfStg := rfl
@[simp] theorem State.setFilter_filter (s : State) (v : Filter) : (s.setFilter v).filter = v := rfl
@[simp] theorem State.setFilter_filterStg (s : State) (v : Filter) : (s.setFilter v).filterStg = s.filterStg := rfl
@[simp] theorem State.setFilter_shelf (s : State) (v : Filter) : (s.setFilter v).shelf = s.shelf := rfl
@[simp] theorem State.setFilter_shelfStg (s : State) (v : Filter) : (s.setFilter v).shelfStg = s.shelfStg := rfl
@[simp] theorem State.setFilter_draws (s : State) (v : Filter) : (s.setFilter v).draws = s.draws := rfl
@[simp] theorem State.setFilter_rx (s : State) (v : Filter) : (s.setFilter v).rx = s.rx := rfl
@[simp] theorem State.setFilter_tx (s : State) (v : Filter) : (s.setFilter v).tx = s.tx := rfl

@[simp] theorem State.setFilterStg_cfg (s : State) (v : FilterRec) : (s.setFilterStg v).cfg = s.cfg := rfl
@[simp] theorem State.setFilterStg_tank (s : State) (v : FilterRec) : (s.setFilterStg v).tank = s.tank := rfl
@[simp] theorem State.setFilterStg_tankStg (s : State) (v : FilterRec) : (s.setFilterStg v).tankStg = s.tankStg := rfl
@[simp] theorem State.setFilterStg_biquad (s : State) (v : FilterRec) : (s.setFilterStg v).biquad = s.biquad := rfl
@[simp] theorem State.setFilterStg_biquadStg (s : State) (v : FilterRec) : (s.setFilterStg v).biquadStg = s.biquadStg := rfl
@[simp] theorem State.setFilterStg_fdb (s : State) (v : FilterRec) : (s.setFilterStg v).fdb = s.fdb := rfl
@[simp] theorem State.setFilterStg_lfo (s : State) (v : FilterRec) : (s.setFilterStg v).lfo = s.lfo := rfl
@[simp] theorem State.setFilterStg_lfoStg (s : State) (v : FilterRec) : (s.setFilterStg v).lfoStg = s.lfoStg := rfl
@[simp] theorem State.setFilterStg_onepole (s : State) (v : FilterRec) : (s.setFilterStg v).onepole = s.onepole := rfl
@[simp] theorem State.setFilterStg_onepoleStg (s : State) (v : FilterRec) : (s.setFilterStg v).onepoleStg = s.onepoleStg := rfl
@[simp] theorem State.setFilterStg_sdelay (s : State) (v : FilterRec) : (s.setFilterStg v).sdelay = s.sdelay := rfl
@[simp] theorem State.setFilterStg_sdelayStg (s : State) (v : FilterRec) : (s.setFilterStg v).sdelayStg = s.sdelayStg := rfl
@[simp] theorem State.setFilterStg_apf (s : State) (v : FilterRec) : (s.setFilterStg v).apf = s.apf := rfl
@[simp] theorem State.setFilterStg_apfStg (s : State) (v : FilterRec) : (s.setFilterStg v).apfStg = s.apfStg := rfl
@[simp] theorem State.setFilterStg_napf (s : State) (v : FilterRec) : (s.setFilterStg v).napf = s.napf := rfl
@[simp] theorem State.setFilterStg_napfStg (s : State) (v : FilterRec) : (s.setFilterStg v).napfStg = s.napfStg := rfl
@[simp] theorem State.setFilterStg_filter (s : State) (v : FilterRec) : (s.setFilterStg v).filter = s.filter := rfl
@[simp] theorem State.setFilterStg_filterStg (s : State) (v : FilterRec) : (s.setFilterStg v).filterStg = v := rfl
@[simp] theorem State.setFilterStg_shelf (s : State) (v : FilterRec) : (s.setFilterStg v).shelf = s.shelf := rfl
@[simp] theorem State.setFilterStg_shelfStg (s : State) (v : FilterRec) : (s.setFilterStg v).shelfStg = s.shelfStg := rfl
@[simp] theorem State.setFilterStg_draws (s : State) (v : FilterRec) : (s.setFilterStg v).draws = s.draws := rfl
@[simp] theorem State.setFilterStg_rx (s : State) (v : FilterRec) : (s.setFilterStg v).rx = s.rx := rfl
@[simp] theorem State.setFilterStg_tx (s : State) (v : FilterRec) : (s.setFilterStg v).tx = s.tx := rfl

@[simp] theorem State.setShelf_cfg (s : State) (v : Shelf) : (s.setShelf v).cfg = s.cfg := rfl
@[simp] theorem State.setShelf_tank (s : State) (v : Shelf) : (s.setShelf v).tank = s.tank := rfl
@[simp] theorem State.setShelf_tankStg (s : State) (v : Shelf) : (s.setShelf v).tankStg = s.tankStg := rfl
@[simp] theorem State.setShelf_biquad (s : State) (v : Shelf) : (s.setShelf v).biquad = s.biquad := rfl
@[simp] theorem State.setShelf_biquadStg (s : State) (v : Shelf) : (s.setShelf v).biquadStg = s.biquadStg := rfl
@[simp] theorem State.setShelf_fdb (s : State) (v : Shelf) : (s.setShelf v).fdb = s.fdb := rfl
@[simp] theorem State.setShelf_lfo (s : State) (v : Shelf) : (s.setShelf v).lfo = s.lfo := rfl
@[simp] theorem State.setShelf_lfoStg (s : State) (v : Shelf) : (s.setShelf v).lfoStg = s.lfoStg := rfl
@[simp] theorem State.setShelf_onepole (s : State) (v : Shelf) : (s.setShelf v).onepole = s.onepole := rfl
@[simp] theorem State.setShelf_onepoleStg (s : State) (v : Shelf) : (s.setShelf v).onepoleStg = s.onepoleStg := rfl
@[simp] theorem State.setShelf_sdelay (s : State) (v : Shelf) : (s.setShelf v).sdelay = s.sdelay := rfl
@[simp] theorem State.setShelf_sdelayStg (s : State) (v : Shelf) : (s.setShelf v).sdelayStg = s.sdelayStg := rfl
@[simp] theorem State.setShelf_apf (s : State) (v : Shelf) : (s.setShelf v).apf = s.apf := rfl
@[simp] theorem State.setShelf_apfStg (s : State) (v : Shelf) : (s.setShelf v).apfStg = s.apfStg := rfl
@[simp] theorem State.setShelf_napf (s : State) (v : Shelf) : (s.setShelf v).napf = s.napf := rfl
@[simp] theorem State.setShelf_napfStg (s : State) (v : Shelf) : (s.setShelf v).napfStg = s.napfStg := rfl
@[simp] theorem State.setShelf_filter (s : State) (v : Shelf) : (s.setShelf v).filter = s.filter := rfl
@[simp] theorem State.setShelf_filterStg (s : State) (v : Shelf) : (s.setShelf v).filterStg = s.filterStg := rfl
@[simp] theorem State.setShelf_shelf (s : State) (v : Shelf) : (s.setShelf v).shelf = v := rfl
@[simp] theorem State.setShelf_shelfStg (s : State) (v : Shelf) : (s.setShelf v).shelfStg = s.shelfStg := rfl
@[simp] theorem State.setShelf_draws (s : State) (v : Shelf) : (s.setShelf v).draws = s.draws := rfl
@[simp] theorem State.setShelf_rx (s : State) (v : Shelf) : (s.setShelf v).rx = s.rx := rfl
@[simp] theorem State.setShelf_tx (s : State) (v : Shelf) : (s.setShelf v).tx = s.tx := rfl

@[simp] theorem State.setShelfStg_cfg (s : State) (v : ShelfRec) : (s.setShelfStg v).cfg = s.cfg := rfl
@[simp] theorem State.setShelfStg_tank (s : State) (v : ShelfRec) : (s.setShelfStg v).tank = s.tank := rfl
@[simp] theorem State.setShelfStg_tankStg (s : State) (v : ShelfRec) : (s.setShelfStg v).tankStg = s.tankStg := rfl
@[simp] theorem State.setShelfStg_biquad (s : State) (v : ShelfRec) : (s.setShelfStg v).biquad = s.biquad := rfl
@[simp] theorem State.setShelfStg_biquadStg (s : State) (v : ShelfRec) : (s.setShelfStg v).biquadStg = s.biquadStg := rfl
@[simp] theorem State.setShelfStg_fdb (s : State) (v : ShelfRec) : (s.setShelfStg v).fdb = s.fdb := rfl
@[simp] theorem State.setShelfStg_lfo (s : State) (v : ShelfRec) : (s.setShelfStg v).lfo = s.lfo := rfl
@[simp] theorem State.setShelfStg_lfoStg (s : State) (v : ShelfRec) : (s.setShelfStg v).lfoStg = s.lfoStg := rfl
@[simp] theorem State.setShelfStg_onepole (s : State) (v : ShelfRec) : (s.setShelfStg v).onepole = s.onepole := rfl
@[simp] theorem State.setShelfStg_onepoleStg (s : State) (v : ShelfRec) : (s.setShelfStg v).onepoleStg = s.onepoleStg := rfl
@[simp] theorem State.setShelfStg_sdelay (s : State) (v : ShelfRec) : (s.setShelfStg v).sdelay = s.sdelay := rfl
@[simp] theorem State.setShelfStg_sdelayStg (s : State) (v : ShelfRec) : (s.setShelfStg v).sdelayStg = s.sdelayStg := rfl
@[simp] theorem State.setShelfStg_apf (s : State) (v : ShelfRec) : (s.setShelfStg v).apf = s.apf := rfl
@[simp] theorem State.setShelfStg_apfStg (s : State) (v : ShelfRec) : (s.setShelfStg v).apfStg = s.apfStg := rfl
@[simp] theorem State.setShelfStg_napf (s : State) (v : ShelfRec) : (s.setShelfStg v).napf = s.napf := rfl
@[simp] theorem State.setShelfStg_napfStg (s : State) (v : ShelfRec) : (s.setShelfStg v).napfStg = s.napfStg := rfl
@[simp] theorem State.setShelfStg_filter (s : State) (v : ShelfRec) : (s.setShelfStg v).filter = s.filter := rfl
@[simp] theorem State.setShelfStg_filterStg (s : State) (v : ShelfRec) : (s.setShelfStg v).filterStg = s.filterStg := rfl
@[simp] theorem State.setShelfStg_shelf (s : State) (v : ShelfRec) : (s.setShelfStg v).shelf = s.shelf := rfl
@[simp] theorem State.setShelfStg_shelfStg (s : State) (v : ShelfRec) : (s.setShelfStg v).shelfStg = v := rfl
@[simp] theorem State.setShelfStg_draws (s : State) (v : ShelfRec) : (s.setShelfStg v).draws = s.draws := rfl
@[simp] theorem State.setShelfStg_rx (s : State) (v : ShelfRec) : (s.setShelfStg v).rx = s.rx := rfl
@[simp] theorem State.setShelfStg_tx (s : State) (v : ShelfRec) : (s.setShelfStg v).tx = s.tx := rfl

@[simp] theorem State.setRx_cfg (s : State) (v : List Byte) : (s.setRx v).cfg = s.cfg := rfl
@[simp] theorem State.setRx_tank (s : State) (v : List Byte) : (s.setRx v).tank = s.tank := rfl
@[simp] theorem State.setRx_tankStg (s : State) (v : List Byte) : (s.setRx v).tankStg = s.tankStg := rfl
@[simp] theorem State.setRx_biquad (s : State) (v : List Byte) : (s.setRx v).biquad = s.biquad := rfl
@[simp] theorem State.setRx_biquadStg (s : State) (v : List Byte) : (s.setRx v).biquadStg = s.biquadStg := rfl
@[simp] theorem State.setRx_fdb (s : State) (v : List Byte) : (s.setRx v).fdb = s.fdb := rfl
@[simp] theorem State.setRx_lfo (s : State) (v : List Byte) : (s.setRx v).lfo = s.lfo := rfl
@[simp] theorem State.setRx_lfoStg (s : State) (v : List Byte) : (s.setRx v).lfoStg = s.lfoStg := rfl
@[simp] theorem State.setRx_onepole (s : State) (v : List Byte) : (s.setRx v).onepole = s.onepole := rfl
@[simp] theorem State.setRx_onepoleStg (s : State) (v : List Byte) : (s.setRx v).onepoleStg = s.onepoleStg := rfl
@[simp] theorem State.setRx_sdelay (s : State) (v : List Byte) : (s.setRx v).sdelay = s.sdelay := rfl
@[simp] theorem State.setRx_sdelayStg (s : State) (v : List Byte) : (s.setRx v).sdelayStg = s.sdelayStg := rfl
@[simp] theorem State.setRx_apf (s : State) (v : List Byte) : (s.setRx v).apf = s.apf := rfl
@[simp] theorem State.setRx_apfStg (s : State) (v : List Byte) : (s.setRx v).apfStg = s.apfStg := rfl
@[simp] theorem State.setRx_napf (s : State) (v : List Byte) : (s.setRx v).napf = s.napf := rfl
@[simp] theorem State.setRx_napfStg (s : State) (v : List Byte) : (s.setRx v).napfStg = s.napfStg := rfl
@[simp] theorem State.setRx_filter (s : State) (v : List Byte) : (s.setRx v).filter = s.filter := rfl
@[simp] theorem State.setRx_filterStg (s : State) (v : List Byte) : (s.setRx v).filterStg = s.filterStg := rfl
@[simp] theorem State.setRx_shelf (s : State) (v : List Byte) : (s.setRx v).shelf = s.shelf := rfl
@[simp] theorem State.setRx_shelfStg (s : State) (v : List Byte) : (s.setRx v).shelfStg = s.shelfStg := rfl
@[simp] theorem State.setRx_draws (s : State) (v : List Byte) : (s.setRx v).draws = s.draws := rfl
@[simp] theorem State.setRx_rx (s : State) (v : List Byte) : (s.setRx v).rx = v := rfl
@[simp] theorem State.setRx_tx (s : State) (v : List Byte) : (s.setRx v).tx = s.tx := rfl

@[simp] theorem State.answer_cfg (s : State) (n : Nat) (r : Response) : (s.answer n r).cfg = s.cfg := rfl
@[simp] theorem State.answer_tank (s : State) (n : Nat) (r : Response) : (s.answer n r).tank = s.tank := rfl
@[simp] theorem State.answer_tankStg (s : State) (n : Nat) (r : Response) : (s.answer n r).tankStg = s.tankStg := rfl
@[simp] theorem State.answer_biquad (s : State) (n : Nat) (r : Response) : (s.answer n r).biquad = s.biquad := rfl
@[simp] theorem State.answer_biquadStg (s : State) (n : Nat) (r : Response) : (s.answer n r).biquadStg = s.biquadStg := rfl
@[simp] theorem State.answer_fdb (s : State) (n : Nat) (r : Response) : (s.answer n r).fdb = s.fdb := rfl
@[simp] theorem State.answer_lfo (s : State) (n : Nat) (r : Response) : (s.answer n r).lfo = s.lfo := rfl
@[simp] theorem State.answer_lfoStg (s : State) (n : Nat) (r : Response) : (s.answer n r).lfoStg = s.lfoStg := rfl
@[simp] theorem State.answer_onepole (s : State) (n : Nat) (r : Response) : (s.answer n r).onepole = s.onepole := rfl
@[simp] theorem State.answer_onepoleStg (s : State) (n : Nat) (r : Response) : (s.answer n r).onepoleStg = s.onepoleStg := rfl
@[simp] theorem State.answer_sdelay (s : State) (n : Nat) (r : Response) : (s.answer n r).sdelay = s.sdelay := rfl
@[simp] theorem State.answer_sdelayStg (s : State) (n : Nat) (r : Response) : (s.answer n r).sdelayStg = s.sdelayStg := rfl
@[simp] theorem State.answer_apf (s : State) (n : Nat) (r : Response) : (s.answer n r).apf = s.apf := rfl
@[simp] theorem State.answer_apfStg (s : State) (n : Nat) (r : Response) : (s.answer n r).apfStg = s.apfStg := rfl
@[simp] theorem State.answer_napf (s : State) (n : Nat) (r : Response) : (s.answer n r).napf = s.napf := rfl
@[simp] theorem State.answer_napfStg (s : State) (n : Nat) (r : Response) : (s.answer n r).napfStg = s.napfStg := rfl
@[simp] theorem State.answer_filter (s : State) (n : Nat) (r : Response) : (s.answer n r).filter = s.filter := rfl
@[simp] theorem State.answer_filterStg (s : State) (n : Nat) (r : Response) : (s.answer n r).filterStg = s.filterStg := rfl
@[simp] theorem State.answer_shelf (s : State) (n : Nat) (r : Response) : (s.answer n r).shelf = s.shelf := rfl
@[simp] theorem State.answer_shelfStg (s : State) (n : Nat) (r : Response) : (s.answer n r).shelfStg = s.shelfStg := rfl
@[simp] theorem State.answer_draws (s : State) (n : Nat) (r : Response) : (s.answer n r).draws = n := rfl
@[simp] theorem State.answer_rx (s : State) (n : Nat) (r : Response) : (s.answer n r).rx = s.rx := rfl
@[simp] theorem State.answer_tx (s : State) (n : Nat) (r : Response) : (s.answer n r).tx = s.tx ++ [r] := rfl

end Sys2Proof.Machine
end

