-- ==== Sys2Proof/Laws/Ops.lean ====
section
/-! SUPPORT. What the answers of Machine/Ops.lean are, and what a performed command can do, once for all of them
(spec/60_exceptions.md R500 to R504). -/

namespace Sys2Proof.Machine

/-- The word of an f32 result is the pattern widened with zeros (30_encoding.md R115). -/
theorem f32Word_eq (v : F32) : f32Word v = v.setWidth 64 := by
  apply BitVec.eq_of_toNat_eq
  have := v.isLt
  simp [f32Word]

/-- The f32 of an operand word is its low half (30_encoding.md R116). -/
theorem f32Of_eq (w : Word64) : f32Of w = w.setWidth 32 := by
  apply BitVec.eq_of_toNat_eq
  simp [f32Of]

theorem statusPerformed_eq (uf : Bool) : statusPerformed uf = handledStatus uf := by cases uf <;> rfl

theorem illegal_eq (s : State) : illegal s = .next (s.answer s.draws { status := 4#32, results := [] }) := rfl

theorem notReady_eq (s : State) : notReady s = .next (s.answer s.draws { status := 8#32, results := [] }) := rfl

theorem notHandled_eq (s : State) : notHandled s = .next (s.answer s.draws { status := 0#32, results := [] }) := rfl

theorem performed_eq (s : State) (rs : List Word64) :
    performed s rs = .next (s.answer s.draws { status := 1#32, results := rs }) := rfl

/-- A performed command: a value its computation can give, answered with HANDLED and its flush indicator. -/
theorem perform_spec {s : State} {m : FpM (State × List Word64)} {P : State × List Word64 → Bool → Prop}
    (h : m.Spec P) : ∃ a uf n, P a uf ∧ s.draws ≤ n ∧
      perform s m = .next (a.1.answer n { status := handledStatus uf, results := a.2 }) := by
  obtain ⟨uf, hp, hu, hd⟩ := h s.fx
  exact ⟨_, uf, _, hp, hd, by rw [perform, hu, statusPerformed_eq]; rfl⟩

/-- A performed command that flushes nothing. -/
theorem perform_quiet {s : State} {m : FpM (State × List Word64)} {P : State × List Word64 → Prop}
    (h : m.Quiet P) : ∃ a n, P a ∧ s.draws ≤ n ∧
      perform s m = .next (a.1.answer n { status := 1#32, results := a.2 }) := by
  obtain ⟨a, uf, n, ⟨hp, rfl⟩, hd, e⟩ := perform_spec h
  exact ⟨a, n, hp, hd, e⟩

/-- The shape of a command that runs one procedure: `up` puts its result back and `rs` reads the result words. -/
theorem perform_procedure {α : Type} {s : State} {m : FpM α} {P : α → Bool → Prop} (up : α → State)
    (rs : α → List Word64) (h : m.Spec P) : ∃ a uf n, P a uf ∧ s.draws ≤ n ∧
      perform s (m >>= fun a => pure (up a, rs a)) =
        .next ((up a).answer n { status := handledStatus uf, results := rs a }) := by
  obtain ⟨_, uf, n, ⟨a, hp, rfl⟩, hn, e⟩ := perform_spec (s := s) (P := fun r uf => ∃ a, P a uf ∧ r = (up a, rs a))
    (spec_bind h fun a u h => spec_pure ⟨a, by simpa using h, rfl⟩)
  exact ⟨a, uf, n, hp, hn, e⟩

/-- The same for a procedure that flushes nothing. -/
theorem perform_quiet_procedure {α : Type} {s : State} {m : FpM α} {P : α → Prop} (up : α → State)
    (rs : α → List Word64) (h : m.Quiet P) : ∃ a n, P a ∧ s.draws ≤ n ∧
      perform s (m >>= fun a => pure (up a, rs a)) = .next ((up a).answer n { status := 1#32, results := rs a }) := by
  obtain ⟨a, uf, n, ⟨hp, rfl⟩, hn, e⟩ := perform_procedure (s := s) up rs h
  exact ⟨a, n, hp, hn, e⟩

theorem resultOrIllegal_some (s : State) (v : Word64) :
    resultOrIllegal s (some v) = .next (s.answer s.draws { status := 1#32, results := [v] }) := rfl

theorem resultOrIllegal_none (s : State) :
    resultOrIllegal s none = .next (s.answer s.draws { status := 4#32, results := [] }) := rfl

theorem updateOrIllegal_some (s s' : State) :
    updateOrIllegal s (some s') = .next (s'.answer s'.draws { status := 1#32, results := [] }) := rfl

theorem updateOrIllegal_none (s : State) :
    updateOrIllegal s none = .next (s.answer s.draws { status := 4#32, results := [] }) := rfl

end Sys2Proof.Machine
end

