-- ==== Sys2Proof/Laws/PerInstr.lean ====
section
/-! SUPPORT. Facts about every command as syntax, one lemma per constructor. `RequestForm`: a command that can be encoded
is the one its request decodes to (spec/30_encoding.md R111, R120, R121). -/

namespace Sys2Proof.Laws

/-- The request of the command decodes to the command. -/
def RequestForm.Statement (i : Instr) : Prop := i.wf = true → decodeRequest i.request = .ok i

/-! ## One lemma per format -/

theorem formK_mk (op : OpCode) (u : UnitId) (i : Instr) : formK i (mkRequest op u 0 []) = .ok i := by
  rw [formK, cmdSel_mkRequest op u 0 (by decide), if_pos rfl, mkRequest_ops]

theorem formKS_mk (op : OpCode) (u : UnitId) (f : BitVec 8 → Instr) (sel : BitVec 8) :
    formKS f (mkRequest op u sel []) = .ok (f sel) := by
  rw [formKS, cmdSel_mkRequest op u sel (by decide), mkRequest_ops]

theorem formFlag_mk (op : OpCode) (u : UnitId) (f : Bool → Instr) (v : Bool) :
    formFlag f (mkRequest op u (if v then 1 else 0) []) = .ok (f v) := by
  rw [formFlag, cmdSel_mkRequest op u _ (by decide), mkRequest_ops]
  cases v <;> rfl

theorem formKD1_mk (op : OpCode) (u : UnitId) (f : Word64 → Instr) (a : Word64) :
    formKD1 f (mkRequest op u 0 [a]) = .ok (f a) := by
  rw [formKD1, cmdSel_mkRequest op u 0 (by simp), if_pos rfl, mkRequest_ops]

theorem formKD2_mk (op : OpCode) (u : UnitId) (f : Word64 → Word64 → Instr) (a b : Word64) :
    formKD2 f (mkRequest op u 0 [a, b]) = .ok (f a b) := by
  rw [formKD2, cmdSel_mkRequest op u 0 (by simp), if_pos rfl, mkRequest_ops]

theorem formKD3_mk (op : OpCode) (u : UnitId) (f : Word64 → Word64 → Word64 → Instr) (a b c : Word64) :
    formKD3 f (mkRequest op u 0 [a, b, c]) = .ok (f a b c) := by
  rw [formKD3, cmdSel_mkRequest op u 0 (by simp), if_pos rfl, mkRequest_ops]

theorem formKSD_mk (op : OpCode) (u : UnitId) (f : BitVec 8 → Word64 → Instr) (sel : BitVec 8) (a : Word64) :
    formKSD f (mkRequest op u sel [a]) = .ok (f sel a) := by
  rw [formKSD, cmdSel_mkRequest op u sel (by simp), mkRequest_ops]

theorem formKF_mk (op : OpCode) (u : UnitId) (f : BitVec 8 → List Word64 → Instr) (sel : BitVec 8) (ops : List Word64)
    (h : ops.length < 256) : formKF f (mkRequest op u sel ops) = .ok (f sel ops) := by
  rw [formKF, cmdSel_mkRequest op u sel h, mkRequest_ops]

/-! ## One lemma per command -/

theorem RequestForm.resetTank (sr : Word64) : RequestForm.Statement (.resetTank sr) := fun _ =>
  (decodeRequest_mkRequest _ _ _ (by simp)).trans (formKD1_mk _ _ _ _)

theorem RequestForm.resetBiquad (sr : Word64) : RequestForm.Statement (.resetBiquad sr) := fun _ =>
  (decodeRequest_mkRequest _ _ _ (by simp)).trans (formKD1_mk _ _ _ _)

theorem RequestForm.resetFdb (sr : Word64) : RequestForm.Statement (.resetFdb sr) := fun _ =>
  (decodeRequest_mkRequest _ _ _ (by simp)).trans (formKD1_mk _ _ _ _)

theorem RequestForm.resetLfo (sr : Word64) : RequestForm.Statement (.resetLfo sr) := fun _ =>
  (decodeRequest_mkRequest _ _ _ (by simp)).trans (formKD1_mk _ _ _ _)

theorem RequestForm.resetOnepole (sr : Word64) : RequestForm.Statement (.resetOnepole sr) := fun _ =>
  (decodeRequest_mkRequest _ _ _ (by simp)).trans (formKD1_mk _ _ _ _)

theorem RequestForm.resetSdelay (sr : Word64) : RequestForm.Statement (.resetSdelay sr) := fun _ =>
  (decodeRequest_mkRequest _ _ _ (by simp)).trans (formKD1_mk _ _ _ _)

theorem RequestForm.resetApf (sr : Word64) : RequestForm.Statement (.resetApf sr) := fun _ =>
  (decodeRequest_mkRequest _ _ _ (by simp)).trans (formKD1_mk _ _ _ _)

theorem RequestForm.resetNapf (sr : Word64) : RequestForm.Statement (.resetNapf sr) := fun _ =>
  (decodeRequest_mkRequest _ _ _ (by simp)).trans (formKD1_mk _ _ _ _)

theorem RequestForm.resetFilter (sr : Word64) : RequestForm.Statement (.resetFilter sr) := fun _ =>
  (decodeRequest_mkRequest _ _ _ (by simp)).trans (formKD1_mk _ _ _ _)

theorem RequestForm.resetShelf (sr : Word64) : RequestForm.Statement (.resetShelf sr) := fun _ =>
  (decodeRequest_mkRequest _ _ _ (by simp)).trans (formKD1_mk _ _ _ _)

theorem RequestForm.ploadTank : RequestForm.Statement (.ploadTank) := fun _ =>
  (decodeRequest_mkRequest _ _ _ (by simp)).trans (formK_mk _ _ _)

theorem RequestForm.ploadBiquad : RequestForm.Statement (.ploadBiquad) := fun _ =>
  (decodeRequest_mkRequest _ _ _ (by simp)).trans (formK_mk _ _ _)

theorem RequestForm.ploadLfo : RequestForm.Statement (.ploadLfo) := fun _ =>
  (decodeRequest_mkRequest _ _ _ (by simp)).trans (formK_mk _ _ _)

theorem RequestForm.ploadOnepole : RequestForm.Statement (.ploadOnepole) := fun _ =>
  (decodeRequest_mkRequest _ _ _ (by simp)).trans (formK_mk _ _ _)

theorem RequestForm.ploadSdelay : RequestForm.Statement (.ploadSdelay) := fun _ =>
  (decodeRequest_mkRequest _ _ _ (by simp)).trans (formK_mk _ _ _)

theorem RequestForm.ploadApf : RequestForm.Statement (.ploadApf) := fun _ =>
  (decodeRequest_mkRequest _ _ _ (by simp)).trans (formK_mk _ _ _)

theorem RequestForm.ploadNapf : RequestForm.Statement (.ploadNapf) := fun _ =>
  (decodeRequest_mkRequest _ _ _ (by simp)).trans (formK_mk _ _ _)

theorem RequestForm.ploadFilter : RequestForm.Statement (.ploadFilter) := fun _ =>
  (decodeRequest_mkRequest _ _ _ (by simp)).trans (formK_mk _ _ _)

theorem RequestForm.ploadShelf : RequestForm.Statement (.ploadShelf) := fun _ =>
  (decodeRequest_mkRequest _ _ _ (by simp)).trans (formK_mk _ _ _)

theorem RequestForm.pstageTank (sel : BitVec 8) (value : Word64) : RequestForm.Statement (.pstageTank sel value) := fun _ =>
  (decodeRequest_mkRequest _ _ _ (by simp)).trans (formKSD_mk _ _ _ _ _)

theorem RequestForm.pstageBiquad (sel : BitVec 8) (value : Word64) : RequestForm.Statement (.pstageBiquad sel value) := fun _ =>
  (decodeRequest_mkRequest _ _ _ (by simp)).trans (formKSD_mk _ _ _ _ _)

theorem RequestForm.pstageLfo (sel : BitVec 8) (value : Word64) : RequestForm.Statement (.pstageLfo sel value) := fun _ =>
  (decodeRequest_mkRequest _ _ _ (by simp)).trans (formKSD_mk _ _ _ _ _)

theorem RequestForm.pstageOnepole (sel : BitVec 8) (value : Word64) : RequestForm.Statement (.pstageOnepole sel value) := fun _ =>
  (decodeRequest_mkRequest _ _ _ (by simp)).trans (formKSD_mk _ _ _ _ _)

theorem RequestForm.pstageSdelay (sel : BitVec 8) (value : Word64) : RequestForm.Statement (.pstageSdelay sel value) := fun _ =>
  (decodeRequest_mkRequest _ _ _ (by simp)).trans (formKSD_mk _ _ _ _ _)

theorem RequestForm.pstageApf (sel : BitVec 8) (value : Word64) : RequestForm.Statement (.pstageApf sel value) := fun _ =>
  (decodeRequest_mkRequest _ _ _ (by simp)).trans (formKSD_mk _ _ _ _ _)

theorem RequestForm.pstageNapf (sel : BitVec 8) (value : Word64) : RequestForm.Statement (.pstageNapf sel value) := fun _ =>
  (decodeRequest_mkRequest _ _ _ (by simp)).trans (formKSD_mk _ _ _ _ _)

theorem RequestForm.pstageFilter (sel : BitVec 8) (value : Word64) : RequestForm.Statement (.pstageFilter sel value) := fun _ =>
  (decodeRequest_mkRequest _ _ _ (by simp)).trans (formKSD_mk _ _ _ _ _)

theorem RequestForm.pstageShelf (sel : BitVec 8) (value : Word64) : RequestForm.Statement (.pstageShelf sel value) := fun _ =>
  (decodeRequest_mkRequest _ _ _ (by simp)).trans (formKSD_mk _ _ _ _ _)

theorem RequestForm.setpTank : RequestForm.Statement (.setpTank) := fun _ =>
  (decodeRequest_mkRequest _ _ _ (by simp)).trans (formK_mk _ _ _)

theorem RequestForm.setpBiquad : RequestForm.Statement (.setpBiquad) := fun _ =>
  (decodeRequest_mkRequest _ _ _ (by simp)).trans (formK_mk _ _ _)

theorem RequestForm.setpLfo : RequestForm.Statement (.setpLfo) := fun _ =>
  (decodeRequest_mkRequest _ _ _ (by simp)).trans (formK_mk _ _ _)

theorem RequestForm.setpOnepole : RequestForm.Statement (.setpOnepole) := fun _ =>
  (decodeRequest_mkRequest _ _ _ (by simp)).trans (formK_mk _ _ _)

theorem RequestForm.setpSdelay : RequestForm.Statement (.setpSdelay) := fun _ =>
  (decodeRequest_mkRequest _ _ _ (by simp)).trans (formK_mk _ _ _)

theorem RequestForm.setpApf : RequestForm.Statement (.setpApf) := fun _ =>
  (decodeRequest_mkRequest _ _ _ (by simp)).trans (formK_mk _ _ _)

theorem RequestForm.setpNapf : RequestForm.Statement (.setpNapf) := fun _ =>
  (decodeRequest_mkRequest _ _ _ (by simp)).trans (formK_mk _ _ _)

theorem RequestForm.setpFilter : RequestForm.Statement (.setpFilter) := fun _ =>
  (decodeRequest_mkRequest _ _ _ (by simp)).trans (formK_mk _ _ _)

theorem RequestForm.setpShelf : RequestForm.Statement (.setpShelf) := fun _ =>
  (decodeRequest_mkRequest _ _ _ (by simp)).trans (formK_mk _ _ _)

theorem RequestForm.getpTank (sel : BitVec 8) : RequestForm.Statement (.getpTank sel) := fun _ =>
  (decodeRequest_mkRequest _ _ _ (by simp)).trans (formKS_mk _ _ _ _)

theorem RequestForm.getpBiquad (sel : BitVec 8) : RequestForm.Statement (.getpBiquad sel) := fun _ =>
  (decodeRequest_mkRequest _ _ _ (by simp)).trans (formKS_mk _ _ _ _)

theorem RequestForm.getpFdb (sel : BitVec 8) : RequestForm.Statement (.getpFdb sel) := fun _ =>
  (decodeRequest_mkRequest _ _ _ (by simp)).trans (formKS_mk _ _ _ _)

theorem RequestForm.getpLfo (sel : BitVec 8) : RequestForm.Statement (.getpLfo sel) := fun _ =>
  (decodeRequest_mkRequest _ _ _ (by simp)).trans (formKS_mk _ _ _ _)

theorem RequestForm.getpOnepole (sel : BitVec 8) : RequestForm.Statement (.getpOnepole sel) := fun _ =>
  (decodeRequest_mkRequest _ _ _ (by simp)).trans (formKS_mk _ _ _ _)

theorem RequestForm.getpSdelay (sel : BitVec 8) : RequestForm.Statement (.getpSdelay sel) := fun _ =>
  (decodeRequest_mkRequest _ _ _ (by simp)).trans (formKS_mk _ _ _ _)

theorem RequestForm.getpApf (sel : BitVec 8) : RequestForm.Statement (.getpApf sel) := fun _ =>
  (decodeRequest_mkRequest _ _ _ (by simp)).trans (formKS_mk _ _ _ _)

theorem RequestForm.getpNapf (sel : BitVec 8) : RequestForm.Statement (.getpNapf sel) := fun _ =>
  (decodeRequest_mkRequest _ _ _ (by simp)).trans (formKS_mk _ _ _ _)

theorem RequestForm.getpFilter (sel : BitVec 8) : RequestForm.Statement (.getpFilter sel) := fun _ =>
  (decodeRequest_mkRequest _ _ _ (by simp)).trans (formKS_mk _ _ _ _)

theorem RequestForm.getpShelf (sel : BitVec 8) : RequestForm.Statement (.getpShelf sel) := fun _ =>
  (decodeRequest_mkRequest _ _ _ (by simp)).trans (formKS_mk _ _ _ _)

theorem RequestForm.procTank (x : Word64) : RequestForm.Statement (.procTank x) := fun _ =>
  (decodeRequest_mkRequest _ _ _ (by simp)).trans (formKD1_mk _ _ _ _)

theorem RequestForm.procBiquad (x : Word64) : RequestForm.Statement (.procBiquad x) := fun _ =>
  (decodeRequest_mkRequest _ _ _ (by simp)).trans (formKD1_mk _ _ _ _)

theorem RequestForm.procOnepole (x : Word64) : RequestForm.Statement (.procOnepole x) := fun _ =>
  (decodeRequest_mkRequest _ _ _ (by simp)).trans (formKD1_mk _ _ _ _)

theorem RequestForm.procSdelay (x : Word64) : RequestForm.Statement (.procSdelay x) := fun _ =>
  (decodeRequest_mkRequest _ _ _ (by simp)).trans (formKD1_mk _ _ _ _)

theorem RequestForm.procApf (x : Word64) : RequestForm.Statement (.procApf x) := fun _ =>
  (decodeRequest_mkRequest _ _ _ (by simp)).trans (formKD1_mk _ _ _ _)

theorem RequestForm.procNapf (x : Word64) : RequestForm.Statement (.procNapf x) := fun _ =>
  (decodeRequest_mkRequest _ _ _ (by simp)).trans (formKD1_mk _ _ _ _)

theorem RequestForm.procFilter (x : Word64) : RequestForm.Statement (.procFilter x) := fun _ =>
  (decodeRequest_mkRequest _ _ _ (by simp)).trans (formKD1_mk _ _ _ _)

theorem RequestForm.procShelf (x : Word64) : RequestForm.Statement (.procShelf x) := fun _ =>
  (decodeRequest_mkRequest _ _ _ (by simp)).trans (formKD1_mk _ _ _ _)

theorem RequestForm.frameTank (sel : BitVec 8) (ops : List Word64) : RequestForm.Statement (.frameTank sel ops) := fun h =>
  (decodeRequest_mkRequest _ _ _ (of_decide_eq_true h)).trans (formKF_mk _ _ _ _ _ (of_decide_eq_true h))

theorem RequestForm.frameBiquad (sel : BitVec 8) (ops : List Word64) : RequestForm.Statement (.frameBiquad sel ops) := fun h =>
  (decodeRequest_mkRequest _ _ _ (of_decide_eq_true h)).trans (formKF_mk _ _ _ _ _ (of_decide_eq_true h))

theorem RequestForm.frameFdb (sel : BitVec 8) (ops : List Word64) : RequestForm.Statement (.frameFdb sel ops) := fun h =>
  (decodeRequest_mkRequest _ _ _ (of_decide_eq_true h)).trans (formKF_mk _ _ _ _ _ (of_decide_eq_true h))

theorem RequestForm.frameLfo (sel : BitVec 8) (ops : List Word64) : RequestForm.Statement (.frameLfo sel ops) := fun h =>
  (decodeRequest_mkRequest _ _ _ (of_decide_eq_true h)).trans (formKF_mk _ _ _ _ _ (of_decide_eq_true h))

theorem RequestForm.frameOnepole (sel : BitVec 8) (ops : List Word64) : RequestForm.Statement (.frameOnepole sel ops) := fun h =>
  (decodeRequest_mkRequest _ _ _ (of_decide_eq_true h)).trans (formKF_mk _ _ _ _ _ (of_decide_eq_true h))

theorem RequestForm.frameSdelay (sel : BitVec 8) (ops : List Word64) : RequestForm.Statement (.frameSdelay sel ops) := fun h =>
  (decodeRequest_mkRequest _ _ _ (of_decide_eq_true h)).trans (formKF_mk _ _ _ _ _ (of_decide_eq_true h))

theorem RequestForm.frameApf (sel : BitVec 8) (ops : List Word64) : RequestForm.Statement (.frameApf sel ops) := fun h =>
  (decodeRequest_mkRequest _ _ _ (of_decide_eq_true h)).trans (formKF_mk _ _ _ _ _ (of_decide_eq_true h))

theorem RequestForm.frameNapf (sel : BitVec 8) (ops : List Word64) : RequestForm.Statement (.frameNapf sel ops) := fun h =>
  (decodeRequest_mkRequest _ _ _ (of_decide_eq_true h)).trans (formKF_mk _ _ _ _ _ (of_decide_eq_true h))

theorem RequestForm.frameFilter (sel : BitVec 8) (ops : List Word64) : RequestForm.Statement (.frameFilter sel ops) := fun h =>
  (decodeRequest_mkRequest _ _ _ (of_decide_eq_true h)).trans (formKF_mk _ _ _ _ _ (of_decide_eq_true h))

theorem RequestForm.frameShelf (sel : BitVec 8) (ops : List Word64) : RequestForm.Statement (.frameShelf sel ops) := fun h =>
  (decodeRequest_mkRequest _ _ _ (of_decide_eq_true h)).trans (formKF_mk _ _ _ _ _ (of_decide_eq_true h))

theorem RequestForm.canframeTank : RequestForm.Statement (.canframeTank) := fun _ =>
  (decodeRequest_mkRequest _ _ _ (by simp)).trans (formK_mk _ _ _)

theorem RequestForm.canframeBiquad : RequestForm.Statement (.canframeBiquad) := fun _ =>
  (decodeRequest_mkRequest _ _ _ (by simp)).trans (formK_mk _ _ _)

theorem RequestForm.canframeFdb : RequestForm.Statement (.canframeFdb) := fun _ =>
  (decodeRequest_mkRequest _ _ _ (by simp)).trans (formK_mk _ _ _)

theorem RequestForm.canframeLfo : RequestForm.Statement (.canframeLfo) := fun _ =>
  (decodeRequest_mkRequest _ _ _ (by simp)).trans (formK_mk _ _ _)

theorem RequestForm.canframeOnepole : RequestForm.Statement (.canframeOnepole) := fun _ =>
  (decodeRequest_mkRequest _ _ _ (by simp)).trans (formK_mk _ _ _)

theorem RequestForm.canframeSdelay : RequestForm.Statement (.canframeSdelay) := fun _ =>
  (decodeRequest_mkRequest _ _ _ (by simp)).trans (formK_mk _ _ _)

theorem RequestForm.canframeApf : RequestForm.Statement (.canframeApf) := fun _ =>
  (decodeRequest_mkRequest _ _ _ (by simp)).trans (formK_mk _ _ _)

theorem RequestForm.canframeNapf : RequestForm.Statement (.canframeNapf) := fun _ =>
  (decodeRequest_mkRequest _ _ _ (by simp)).trans (formK_mk _ _ _)

theorem RequestForm.canframeFilter : RequestForm.Statement (.canframeFilter) := fun _ =>
  (decodeRequest_mkRequest _ _ _ (by simp)).trans (formK_mk _ _ _)

theorem RequestForm.canframeShelf : RequestForm.Statement (.canframeShelf) := fun _ =>
  (decodeRequest_mkRequest _ _ _ (by simp)).trans (formK_mk _ _ _)

theorem RequestForm.bqwcBiquad (k : BitVec 8) (c : Word64) : RequestForm.Statement (.bqwcBiquad k c) := fun _ =>
  (decodeRequest_mkRequest _ _ _ (by simp)).trans (formKSD_mk _ _ _ _ _)

theorem RequestForm.bqrcBiquad (k : BitVec 8) : RequestForm.Statement (.bqrcBiquad k) := fun _ =>
  (decodeRequest_mkRequest _ _ _ (by simp)).trans (formKS_mk _ _ _ _)

theorem RequestForm.bqgetsBiquad : RequestForm.Statement (.bqgetsBiquad) := fun _ =>
  (decodeRequest_mkRequest _ _ _ (by simp)).trans (formK_mk _ _ _)

theorem RequestForm.flrcFilter (k : BitVec 8) : RequestForm.Statement (.flrcFilter k) := fun _ =>
  (decodeRequest_mkRequest _ _ _ (by simp)).trans (formKS_mk _ _ _ _)

theorem RequestForm.createFdb (n : Word64) : RequestForm.Statement (.createFdb n) := fun _ =>
  (decodeRequest_mkRequest _ _ _ (by simp)).trans (formKD1_mk _ _ _ _)

theorem RequestForm.createSdelay (sr : Word64) (ms : Word64) : RequestForm.Statement (.createSdelay sr ms) := fun _ =>
  (decodeRequest_mkRequest _ _ _ (by simp)).trans (formKD2_mk _ _ _ _ _)

theorem RequestForm.createApf (sr : Word64) (ms : Word64) : RequestForm.Statement (.createApf sr ms) := fun _ =>
  (decodeRequest_mkRequest _ _ _ (by simp)).trans (formKD2_mk _ _ _ _ _)

theorem RequestForm.createNapf (sr : Word64) (msOuter : Word64) (msInner : Word64) : RequestForm.Statement (.createNapf sr msOuter msInner) := fun _ =>
  (decodeRequest_mkRequest _ _ _ (by simp)).trans (formKD3_mk _ _ _ _ _ _)

theorem RequestForm.writeFdb (x : Word64) : RequestForm.Statement (.writeFdb x) := fun _ =>
  (decodeRequest_mkRequest _ _ _ (by simp)).trans (formKD1_mk _ _ _ _)

theorem RequestForm.writeSdelay (x : Word64) : RequestForm.Statement (.writeSdelay x) := fun _ =>
  (decodeRequest_mkRequest _ _ _ (by simp)).trans (formKD1_mk _ _ _ _)

theorem RequestForm.readiFdb (d : Word64) : RequestForm.Statement (.readiFdb d) := fun _ =>
  (decodeRequest_mkRequest _ _ _ (by simp)).trans (formKD1_mk _ _ _ _)

theorem RequestForm.readfFdb (d : Word64) : RequestForm.Statement (.readfFdb d) := fun _ =>
  (decodeRequest_mkRequest _ _ _ (by simp)).trans (formKD1_mk _ _ _ _)

theorem RequestForm.setiFdb (v : Bool) : RequestForm.Statement (.setiFdb v) := fun _ =>
  (decodeRequest_mkRequest _ _ _ (by simp)).trans (formFlag_mk _ _ _ _)

theorem RequestForm.sdreadSdelay : RequestForm.Statement (.sdreadSdelay) := fun _ =>
  (decodeRequest_mkRequest _ _ _ (by simp)).trans (formK_mk _ _ _)

theorem RequestForm.sdreadtSdelay (ms : Word64) : RequestForm.Statement (.sdreadtSdelay ms) := fun _ =>
  (decodeRequest_mkRequest _ _ _ (by simp)).trans (formKD1_mk _ _ _ _)

theorem RequestForm.sdreadpSdelay (pct : Word64) : RequestForm.Statement (.sdreadpSdelay pct) := fun _ =>
  (decodeRequest_mkRequest _ _ _ (by simp)).trans (formKD1_mk _ _ _ _)

theorem RequestForm.renderLfo : RequestForm.Statement (.renderLfo) := fun _ =>
  (decodeRequest_mkRequest _ _ _ (by simp)).trans (formK_mk _ _ _)

end Sys2Proof.Laws
end

