-- ==== Sys2Proof/Tests/Slice0.lean ====
section
/-! SUPPORT. Tests. Expected values are the spec's: its opcode tables (30_encoding.md), its vectors (95_test_vectors.md
V1 to V10) and hand calculation from its rules. `test_witness_<Name>` shows operands and states that meet the hypotheses of
the statement `<Name>`, each clause of it, at the ends of its ranges. -/

namespace Sys2Proof.Tests

-- One proof at a time: evaluated all at once, they take more threads than the checker's memory allows.
set_option Elab.async false

open Sys2Proof.Machine

/-! ## Small states -/

/-- The response a command gave. -/
def lastOf (o : Out) : Option Response :=
  match o with
  | .next t => t.tx.getLast?
  | _ => none

/-- What a command left, seen through `f`. -/
def leaves {α : Type} (f : State → α) (o : Out) : Option α :=
  match o with
  | .next t => some (f t)
  | _ => none

/-- A memory of four words after the writes 1.0 and 2.0. -/
def buf4 : Fdb :=
  { alloc := true, len := 4, mask := 3, w := 2, interp := true, mem := [(0, F64.one), (1, F64.two)] }

/-- A memory of four words just created. -/
def empty4 : Fdb := { alloc := true, len := 4, mask := 3, w := 0, interp := false, mem := [] }

/-- A line at 1000 Hz that delays by `ds` milliseconds, which are samples. -/
def line (ds : F64) (b : Fdb) : SDelay :=
  { record := { delayTimeMSec := ds, interpolate := false }, delaySamples := ds, sr := F64.thousand, spms := F64.one
    bufMs := F64.two, buf := { b with interp := false } }

/-- An all-pass section of gain `g` on such a line. -/
def apfOn (g ds : F64) (b : Fdb) : Apf :=
  { Apf.powerOn with record := { ApfRec.powerOn with delayTimeMSec := ds, apfG := g }, sd := line ds b }

/-- A designer with the coefficients `c` and clear registers. -/
def designer (c : Coef) : Filter :=
  { Filter.powerOn .lowShelf 0 with
    coef := c, bq := { record := { algorithm := .transposeCanonical }, coef := c, s := BqRegs.zero } }

/-- Coefficients that pass the input on. -/
def passing : Coef := { Coef.zero with d0 := F64.one }

/-- V5.1, and the designs of V6.3. -/
def coefV51 : Coef :=
  { a0 := 0x3FB49AA59A087224#64, a1 := 0x3FB49AA59A087224#64, a2 := 0, b1 := 0xBFEAD956997DE377#64, b2 := 0
    c0 := 0x3FEFD9305AB7715E#64, d0 := F64.one }

def coefV63lo : Coef :=
  { a0 := F64.nearest 17181531582732223 (10 ^ 18), a1 := F64.nearest 17181531582732223 (10 ^ 18), a2 := 0
    b1 := F64.neg (F64.nearest 9656369368345356 (10 ^ 16)), b2 := 0, c0 := F64.nearest 9952623149688795 (10 ^ 16)
    d0 := F64.one }

def coefV63hi : Coef :=
  { a0 := F64.nearest 8869996978373402 (10 ^ 16), a1 := F64.neg (F64.nearest 8869996978373402 (10 ^ 16)), a2 := 0
    b1 := F64.neg (F64.nearest 7739993956746803 (10 ^ 16)), b2 := 0
    c0 := F64.neg (F64.nearest 49881276637272776 (10 ^ 17)), d0 := F64.one }

/-- A tank whose memories are created and whose levels are 0 dB. -/
def tank4 : Tank :=
  { Tank.powerOn with
    record := { TankRec.powerOn with wetLevelDb := 0, dryLevelDb := 0 }
    pre := line 0 empty4, bd := Quad.all (line 0 empty4)
    napf := Quad.all { Napf.powerOn with outer := apfOn F64.half 0 empty4, inner := apfOn F64.half 0 empty4 }
    shelfL := { Shelf.powerOn 0 with lo := designer passing, hi := designer passing }
    shelfR := { Shelf.powerOn 0 with lo := designer passing, hi := designer passing } }

/-- Every memory created. -/
def ready : State :=
  { State.reset with
    fdb := buf4, sdelay := line F64.one buf4, apf := apfOn F64.half F64.one buf4
    napf := { Napf.powerOn with
      outer := apfOn F64.half F64.two empty4, inner := apfOn (F64.neg F64.half) F64.one empty4 }
    tank := tank4
    filter := designer coefV51
    shelf := { Shelf.powerOn 0 with lo := designer coefV63lo, hi := designer coefV63hi } }

/-! ## Ill-formed terms -/

/-- NOPS is an 8-bit count (30_encoding.md R111). -/
theorem test_wf_refuses_256_operands :
    ∀ i ∈ [Instr.frameTank 0x11 (List.replicate 256 0), .frameBiquad 0x11 (List.replicate 256 0),
      .frameFdb 0x11 (List.replicate 256 0), .frameLfo 0x11 (List.replicate 256 0), .frameOnepole 0x11 (List.replicate 256 0),
      .frameSdelay 0x11 (List.replicate 256 0), .frameApf 0x11 (List.replicate 256 0), .frameNapf 0x11 (List.replicate 256 0),
      .frameFilter 0x11 (List.replicate 256 0), .frameShelf 0x11 (List.replicate 256 0)], i.wf = false := by
  decide +kernel

/-- SEL of PSTAGE and of GETP is below the unit's count of fields (R122): the first SEL that is not. -/
theorem test_formOk_refuses_fields :
    ∀ i ∈ [Instr.pstageTank 14 0, .pstageBiquad 1 0, .pstageLfo 2 0, .pstageOnepole 1 0, .pstageSdelay 2 0, .pstageApf 9 0,
      .pstageNapf 8 0, .pstageFilter 4 0, .pstageShelf 4 0, .getpTank 16, .getpBiquad 1, .getpFdb 5, .getpLfo 2,
      .getpOnepole 1, .getpSdelay 5, .getpApf 9, .getpNapf 8, .getpFilter 4, .getpShelf 4], i.formOk = false := by
  decide +kernel

/-- A coefficient index is below 7 (R113). -/
theorem test_formOk_refuses_coefficients :
    ∀ i ∈ [Instr.bqwcBiquad 7 0, .bqrcBiquad 7, .flrcFilter 7], i.formOk = false := by decide +kernel

/-- A frame form has 1 or 2 channels each way and NOPS = IN (R114, R121). -/
theorem test_formOk_refuses_frames :
    ∀ i ∈ [Instr.frameTank 0x31 [0, 0, 0], .frameTank 0x11 [], .frameBiquad 0x10 [0], .frameFdb 0x13 [0], .frameLfo 0x01 [],
      .frameOnepole 0x21 [0], .frameSdelay 0x11 [0, 0], .frameApf 0x00 [], .frameNapf 0x30 [0, 0, 0], .frameFilter 0x12 [],
      .frameShelf 0xFF [0]], i.formOk = false := by
  decide +kernel

/-! ## Decoding -/

/-- RESET: words written from 30_encoding.md R111, R112 and R120. -/
theorem test_decode_reset :
    decodeRequest ⟨0x01000001#32, [0x3FF0000000000000#64]⟩ = .ok (.resetTank 0x3FF0000000000000#64) ∧
    decodeRequest ⟨0x01010001#32, [0x3FF0000000000000#64]⟩ = .ok (.resetBiquad 0x3FF0000000000000#64) ∧
    decodeRequest ⟨0x01020001#32, [0x3FF0000000000000#64]⟩ = .ok (.resetFdb 0x3FF0000000000000#64) ∧
    decodeRequest ⟨0x01030001#32, [0x3FF0000000000000#64]⟩ = .ok (.resetLfo 0x3FF0000000000000#64) ∧
    decodeRequest ⟨0x01040001#32, [0x3FF0000000000000#64]⟩ = .ok (.resetOnepole 0x3FF0000000000000#64) ∧
    decodeRequest ⟨0x01050001#32, [0x3FF0000000000000#64]⟩ = .ok (.resetSdelay 0x3FF0000000000000#64) ∧
    decodeRequest ⟨0x01060001#32, [0x3FF0000000000000#64]⟩ = .ok (.resetApf 0x3FF0000000000000#64) ∧
    decodeRequest ⟨0x01070001#32, [0x3FF0000000000000#64]⟩ = .ok (.resetNapf 0x3FF0000000000000#64) ∧
    decodeRequest ⟨0x01080001#32, [0x3FF0000000000000#64]⟩ = .ok (.resetFilter 0x3FF0000000000000#64) ∧
    decodeRequest ⟨0x01090001#32, [0x3FF0000000000000#64]⟩ = .ok (.resetShelf 0x3FF0000000000000#64) :=
  ⟨rfl, rfl, rfl, rfl, rfl, rfl, rfl, rfl, rfl, rfl⟩

/-- PLOAD: words written from 30_encoding.md R111, R112 and R120. -/
theorem test_decode_pload :
    decodeRequest ⟨0x02000000#32, []⟩ = .ok (.ploadTank) ∧
    decodeRequest ⟨0x02010000#32, []⟩ = .ok (.ploadBiquad) ∧
    decodeRequest ⟨0x02030000#32, []⟩ = .ok (.ploadLfo) ∧
    decodeRequest ⟨0x02040000#32, []⟩ = .ok (.ploadOnepole) ∧
    decodeRequest ⟨0x02050000#32, []⟩ = .ok (.ploadSdelay) ∧
    decodeRequest ⟨0x02060000#32, []⟩ = .ok (.ploadApf) ∧
    decodeRequest ⟨0x02070000#32, []⟩ = .ok (.ploadNapf) ∧
    decodeRequest ⟨0x02080000#32, []⟩ = .ok (.ploadFilter) ∧
    decodeRequest ⟨0x02090000#32, []⟩ = .ok (.ploadShelf) :=
  ⟨rfl, rfl, rfl, rfl, rfl, rfl, rfl, rfl, rfl⟩

/-- PSTAGE: words written from 30_encoding.md R111, R112 and R120. -/
theorem test_decode_pstage :
    decodeRequest ⟨0x03000101#32, [0x3FF0000000000000#64]⟩ = .ok (.pstageTank 1 0x3FF0000000000000#64) ∧
    decodeRequest ⟨0x03010001#32, [0x3FF0000000000000#64]⟩ = .ok (.pstageBiquad 0 0x3FF0000000000000#64) ∧
    decodeRequest ⟨0x03030101#32, [0x3FF0000000000000#64]⟩ = .ok (.pstageLfo 1 0x3FF0000000000000#64) ∧
    decodeRequest ⟨0x03040001#32, [0x3FF0000000000000#64]⟩ = .ok (.pstageOnepole 0 0x3FF0000000000000#64) ∧
    decodeRequest ⟨0x03050101#32, [0x3FF0000000000000#64]⟩ = .ok (.pstageSdelay 1 0x3FF0000000000000#64) ∧
    decodeRequest ⟨0x03060101#32, [0x3FF0000000000000#64]⟩ = .ok (.pstageApf 1 0x3FF0000000000000#64) ∧
    decodeRequest ⟨0x03070101#32, [0x3FF0000000000000#64]⟩ = .ok (.pstageNapf 1 0x3FF0000000000000#64) ∧
    decodeRequest ⟨0x03080101#32, [0x3FF0000000000000#64]⟩ = .ok (.pstageFilter 1 0x3FF0000000000000#64) ∧
    decodeRequest ⟨0x03090101#32, [0x3FF0000000000000#64]⟩ = .ok (.pstageShelf 1 0x3FF0000000000000#64) :=
  ⟨rfl, rfl, rfl, rfl, rfl, rfl, rfl, rfl, rfl⟩

/-- SETP: words written from 30_encoding.md R111, R112 and R120. -/
theorem test_decode_setp :
    decodeRequest ⟨0x04000000#32, []⟩ = .ok (.setpTank) ∧
    decodeRequest ⟨0x04010000#32, []⟩ = .ok (.setpBiquad) ∧
    decodeRequest ⟨0x04030000#32, []⟩ = .ok (.setpLfo) ∧
    decodeRequest ⟨0x04040000#32, []⟩ = .ok (.setpOnepole) ∧
    decodeRequest ⟨0x04050000#32, []⟩ = .ok (.setpSdelay) ∧
    decodeRequest ⟨0x04060000#32, []⟩ = .ok (.setpApf) ∧
    decodeRequest ⟨0x04070000#32, []⟩ = .ok (.setpNapf) ∧
    decodeRequest ⟨0x04080000#32, []⟩ = .ok (.setpFilter) ∧
    decodeRequest ⟨0x04090000#32, []⟩ = .ok (.setpShelf) :=
  ⟨rfl, rfl, rfl, rfl, rfl, rfl, rfl, rfl, rfl⟩

/-- GETP: words written from 30_encoding.md R111, R112 and R120. -/
theorem test_decode_getp :
    decodeRequest ⟨0x05000100#32, []⟩ = .ok (.getpTank 1) ∧
    decodeRequest ⟨0x05010000#32, []⟩ = .ok (.getpBiquad 0) ∧
    decodeRequest ⟨0x05020100#32, []⟩ = .ok (.getpFdb 1) ∧
    decodeRequest ⟨0x05030100#32, []⟩ = .ok (.getpLfo 1) ∧
    decodeRequest ⟨0x05040000#32, []⟩ = .ok (.getpOnepole 0) ∧
    decodeRequest ⟨0x05050100#32, []⟩ = .ok (.getpSdelay 1) ∧
    decodeRequest ⟨0x05060100#32, []⟩ = .ok (.getpApf 1) ∧
    decodeRequest ⟨0x05070100#32, []⟩ = .ok (.getpNapf 1) ∧
    decodeRequest ⟨0x05080100#32, []⟩ = .ok (.getpFilter 1) ∧
    decodeRequest ⟨0x05090100#32, []⟩ = .ok (.getpShelf 1) :=
  ⟨rfl, rfl, rfl, rfl, rfl, rfl, rfl, rfl, rfl, rfl⟩

/-- PROC: words written from 30_encoding.md R111, R112 and R120. -/
theorem test_decode_proc :
    decodeRequest ⟨0x06000001#32, [0x3FF0000000000000#64]⟩ = .ok (.procTank 0x3FF0000000000000#64) ∧
    decodeRequest ⟨0x06010001#32, [0x3FF0000000000000#64]⟩ = .ok (.procBiquad 0x3FF0000000000000#64) ∧
    decodeRequest ⟨0x06040001#32, [0x3FF0000000000000#64]⟩ = .ok (.procOnepole 0x3FF0000000000000#64) ∧
    decodeRequest ⟨0x06050001#32, [0x3FF0000000000000#64]⟩ = .ok (.procSdelay 0x3FF0000000000000#64) ∧
    decodeRequest ⟨0x06060001#32, [0x3FF0000000000000#64]⟩ = .ok (.procApf 0x3FF0000000000000#64) ∧
    decodeRequest ⟨0x06070001#32, [0x3FF0000000000000#64]⟩ = .ok (.procNapf 0x3FF0000000000000#64) ∧
    decodeRequest ⟨0x06080001#32, [0x3FF0000000000000#64]⟩ = .ok (.procFilter 0x3FF0000000000000#64) ∧
    decodeRequest ⟨0x06090001#32, [0x3FF0000000000000#64]⟩ = .ok (.procShelf 0x3FF0000000000000#64) :=
  ⟨rfl, rfl, rfl, rfl, rfl, rfl, rfl, rfl⟩

/-- FRAME: words written from 30_encoding.md R111, R112 and R120. -/
theorem test_decode_frame :
    decodeRequest ⟨0x07002102#32, [0x3F800000#64, 0xBF800000#64]⟩
      = .ok (.frameTank 0x21 [0x3F800000#64, 0xBF800000#64]) ∧
    decodeRequest ⟨0x07012102#32, [0x3F800000#64, 0xBF800000#64]⟩
      = .ok (.frameBiquad 0x21 [0x3F800000#64, 0xBF800000#64]) ∧
    decodeRequest ⟨0x07022102#32, [0x3F800000#64, 0xBF800000#64]⟩
      = .ok (.frameFdb 0x21 [0x3F800000#64, 0xBF800000#64]) ∧
    decodeRequest ⟨0x07032102#32, [0x3F800000#64, 0xBF800000#64]⟩
      = .ok (.frameLfo 0x21 [0x3F800000#64, 0xBF800000#64]) ∧
    decodeRequest ⟨0x07042102#32, [0x3F800000#64, 0xBF800000#64]⟩
      = .ok (.frameOnepole 0x21 [0x3F800000#64, 0xBF800000#64]) ∧
    decodeRequest ⟨0x07052102#32, [0x3F800000#64, 0xBF800000#64]⟩
      = .ok (.frameSdelay 0x21 [0x3F800000#64, 0xBF800000#64]) ∧
    decodeRequest ⟨0x07062102#32, [0x3F800000#64, 0xBF800000#64]⟩
      = .ok (.frameApf 0x21 [0x3F800000#64, 0xBF800000#64]) ∧
    decodeRequest ⟨0x07072102#32, [0x3F800000#64, 0xBF800000#64]⟩
      = .ok (.frameNapf 0x21 [0x3F800000#64, 0xBF800000#64]) ∧
    decodeRequest ⟨0x07082102#32, [0x3F800000#64, 0xBF800000#64]⟩
      = .ok (.frameFilter 0x21 [0x3F800000#64, 0xBF800000#64]) ∧
    decodeRequest ⟨0x07092102#32, [0x3F800000#64, 0xBF800000#64]⟩
      = .ok (.frameShelf 0x21 [0x3F800000#64, 0xBF800000#64]) :=
  ⟨rfl, rfl, rfl, rfl, rfl, rfl, rfl, rfl, rfl, rfl⟩

/-- CANFRAME: words written from 30_encoding.md R111, R112 and R120. -/
theorem test_decode_canframe :
    decodeRequest ⟨0x08000000#32, []⟩ = .ok (.canframeTank) ∧
    decodeRequest ⟨0x08010000#32, []⟩ = .ok (.canframeBiquad) ∧
    decodeRequest ⟨0x08020000#32, []⟩ = .ok (.canframeFdb) ∧
    decodeRequest ⟨0x08030000#32, []⟩ = .ok (.canframeLfo) ∧
    decodeRequest ⟨0x08040000#32, []⟩ = .ok (.canframeOnepole) ∧
    decodeRequest ⟨0x08050000#32, []⟩ = .ok (.canframeSdelay) ∧
    decodeRequest ⟨0x08060000#32, []⟩ = .ok (.canframeApf) ∧
    decodeRequest ⟨0x08070000#32, []⟩ = .ok (.canframeNapf) ∧
    decodeRequest ⟨0x08080000#32, []⟩ = .ok (.canframeFilter) ∧
    decodeRequest ⟨0x08090000#32, []⟩ = .ok (.canframeShelf) :=
  ⟨rfl, rfl, rfl, rfl, rfl, rfl, rfl, rfl, rfl, rfl⟩

/-- The accessors: words written from 30_encoding.md R111, R112 and R120. -/
theorem test_decode_access :
    decodeRequest ⟨0x10010101#32, [0x3FF0000000000000#64]⟩ = .ok (.bqwcBiquad 1 0x3FF0000000000000#64) ∧
    decodeRequest ⟨0x11010100#32, []⟩ = .ok (.bqrcBiquad 1) ∧
    decodeRequest ⟨0x12010000#32, []⟩ = .ok (.bqgetsBiquad) ∧
    decodeRequest ⟨0x13080100#32, []⟩ = .ok (.flrcFilter 1) ∧
    decodeRequest ⟨0x18020001#32, [0x3FF0000000000000#64]⟩ = .ok (.createFdb 0x3FF0000000000000#64) ∧
    decodeRequest ⟨0x18050002#32, [0x3FF0000000000000#64, 0x4000000000000000#64]⟩
      = .ok (.createSdelay 0x3FF0000000000000#64 0x4000000000000000#64) ∧
    decodeRequest ⟨0x18060002#32, [0x3FF0000000000000#64, 0x4000000000000000#64]⟩
      = .ok (.createApf 0x3FF0000000000000#64 0x4000000000000000#64) ∧
    decodeRequest ⟨0x18070003#32, [0x3FF0000000000000#64, 0x4000000000000000#64, 0x4008000000000000#64]⟩
      = .ok (.createNapf 0x3FF0000000000000#64 0x4000000000000000#64 0x4008000000000000#64) ∧
    decodeRequest ⟨0x19020001#32, [0x3FF0000000000000#64]⟩ = .ok (.writeFdb 0x3FF0000000000000#64) ∧
    decodeRequest ⟨0x19050001#32, [0x3FF0000000000000#64]⟩ = .ok (.writeSdelay 0x3FF0000000000000#64) ∧
    decodeRequest ⟨0x1A020001#32, [0x3FF0000000000000#64]⟩ = .ok (.readiFdb 0x3FF0000000000000#64) ∧
    decodeRequest ⟨0x1B020001#32, [0x3FF0000000000000#64]⟩ = .ok (.readfFdb 0x3FF0000000000000#64) ∧
    decodeRequest ⟨0x1C020100#32, []⟩ = .ok (.setiFdb true) ∧
    decodeRequest ⟨0x1D050000#32, []⟩ = .ok (.sdreadSdelay) ∧
    decodeRequest ⟨0x1E050001#32, [0x3FF0000000000000#64]⟩ = .ok (.sdreadtSdelay 0x3FF0000000000000#64) ∧
    decodeRequest ⟨0x1F050001#32, [0x3FF0000000000000#64]⟩ = .ok (.sdreadpSdelay 0x3FF0000000000000#64) ∧
    decodeRequest ⟨0x20030000#32, []⟩ = .ok (.renderLfo) :=
  ⟨rfl, rfl, rfl, rfl, rfl, rfl, rfl, rfl, rfl, rfl, rfl, rfl, rfl, rfl, rfl, rfl, rfl⟩

/-- Bytes come least significant first (20_memory.md R88): PSTAGE.TANK kRT, 0.5 (R125). -/
theorem test_decode_bytes :
    decode [0x01, 0x07, 0x00, 0x03, 0x00, 0x00, 0x00, 0x00, 0x00, 0x00, 0xE0, 0x3F, 0xAA]
      = some (.ok (.pstageTank 7 F64.half), [0xAA]) := rfl

/-- Reserved codes, absent pairs, and fixed fields that are not zero (R112, R114, R121, R123). -/
theorem test_decode_rejects :
    decodeRequest ⟨0x00000000#32, []⟩ = .error .reservedOp ∧ decodeRequest ⟨0x09000000#32, []⟩ = .error .reservedOp ∧
    decodeRequest ⟨0x010A0001#32, [0]⟩ = .error .reservedUnit ∧ decodeRequest ⟨0x06020001#32, [0]⟩ = .error .noSuchPair ∧
    decodeRequest ⟨0x04000100#32, []⟩ = .error .badSel ∧ decodeRequest ⟨0x1C020200#32, []⟩ = .error .badSel ∧
    decodeRequest ⟨0x04000001#32, [0]⟩ = .error .badNops ∧ decodeRequest ⟨0x01000000#32, []⟩ = .error .badNops ∧
    decodeRequest ⟨0x18070002#32, [0, 0]⟩ = .error .badNops := ⟨rfl, rfl, rfl, rfl, rfl, rfl, rfl, rfl, rfl⟩

/-! ## Constants -/

/-- `B = 4.0/pi`, `C = -4.0/(pi*pi)`, `P = 0.225` (42_lfo.md R220), and 0.707 (44_filter_designer.md R296). -/
theorem test_literals :
    F64.div? F64.four F64.pi = some parB ∧
    (F64.mul? F64.pi F64.pi).bind (F64.div? (F64.neg F64.four)) = some parC ∧ parP = F64.nearest 225 1000 ∧
    F64.q0707 = F64.nearest 707 1000 ∧ F64.hundred = F64.nearest 100 1 ∧ F64.thousand = F64.nearest 1000 1 ∧
    F64.twenty = F64.nearest 20 1 ∧ F64.ten = F64.nearest 10 1 ∧ F64.quarter = F64.nearest 1 4 := by
  decide +kernel

/-- V1.8, V1.9, V1.11. -/
theorem test_need_and_rates :
    need (F64.nearest 44100 1) F64.hundred = some 4411 ∧ need (F64.nearest 96000 1) F64.hundred = some 9601 ∧
    need (F64.nearest 48000 1) 0 = some 1 ∧ pow2ceil 4411 = 8192 ∧ need (F64.nearest 44100 1) (F64.inf false) = none ∧
    need (F64.nearest 44100 1) (F64.neg F64.one) = none ∧ validRate F64.one = true ∧ validRate 0 = false ∧
    validRate (F64.neg F64.one) = false ∧ validRate 0x7FF8000000000000#64 = false ∧ validRate (F64.inf false) = false := by
  decide +kernel

/-- V1.4 to V1.7. -/
theorem test_flush :
    (ftz State.reset.cfg.ftzThreshold (F64.nearest 1 (10 ^ 39))).apply ⟨0, false⟩ = (0, ⟨0, true⟩) ∧
    (ftz State.reset.cfg.ftzThreshold (F64.neg (F64.nearest 1 (10 ^ 300)))).apply ⟨0, false⟩ = (0, ⟨0, true⟩) ∧
    (ftz State.reset.cfg.ftzThreshold State.reset.cfg.ftzThreshold).apply ⟨0, false⟩
      = (State.reset.cfg.ftzThreshold, ⟨0, false⟩) ∧
    (ftz State.reset.cfg.ftzThreshold 0x8000000000000000#64).apply ⟨0, false⟩ = (0x8000000000000000#64, ⟨0, false⟩) := by
  decide +kernel

/-! ## Single commands -/

/-- V2.1, V2.2, and a write at the last word wraps the cursor. -/
theorem test_fdb_writes :
    leaves (·.fdb) (exec (.createFdb 17) State.reset)
      = some { alloc := true, len := 32, mask := 31, w := 0, interp := true, mem := [] } ∧
    leaves (·.fdb) (exec (.createFdb 0) State.reset)
      = some { alloc := true, len := 1, mask := 0, w := 0, interp := true, mem := [] } ∧
    leaves (·.fdb) (exec (.writeFdb F64.four) ready)
      = some { buf4 with w := 3, mem := [(0, F64.one), (1, F64.two), (2, F64.four)] } ∧
    leaves (·.fdb.w) (exec (.writeFdb F64.four) { ready with fdb := { buf4 with w := 3 } }) = some 0 := by
  decide +kernel

/-- V2.3 to V2.6 on four words, V2.9, V2.11: delay 1, the wrap of delay 4, of -1 and of -3. -/
theorem test_fdb_reads :
    lastOf (exec (.readiFdb 1) ready) = some ⟨1, [F64.one]⟩ ∧ lastOf (exec (.readiFdb 4) ready) = some ⟨1, [F64.two]⟩ ∧
    lastOf (exec (.readiFdb 0xFFFFFFFFFFFFFFFF#64) ready) = some ⟨1, [0]⟩ ∧
    lastOf (exec (.readiFdb 0xFFFFFFFFFFFFFFFD#64) ready) = some ⟨1, [F64.one]⟩ ∧
    lastOf (exec (.readfFdb F64.quarter) ready) = some ⟨1, [0x3FFC000000000000#64]⟩ ∧
    lastOf (exec (.readfFdb (F64.neg F64.half)) ready) = some ⟨1, [F64.nearest 5 2]⟩ ∧
    lastOf (exec (.readiFdb 0x80000000#64) ready) = some ⟨4, []⟩ ∧
    lastOf (exec (.readiFdb 0) State.reset) = some ⟨8, []⟩ := by
  decide +kernel

/-- V2.10, V2.12: RESET.FDB zeroes the words and keeps the cursor; at power-on it changes nothing. -/
theorem test_fdb_reset :
    leaves (·.fdb) (exec (.resetFdb F64.thousand) ready) = some { buf4 with mem := [] } ∧
    leaves (·.fdb) (exec (.resetFdb F64.thousand) State.reset) = some State.reset.fdb := by
  decide +kernel

/-- V3.2, second render, and V3.6, first render: SINE at an eighth, SAW at phase 0.0 with a falling phase. -/
theorem test_render :
    lastOf (exec .renderLfo (State.reset.setLfo
      { Lfo.powerOn with
        record := { waveform := .sine, frequencyHz := F64.one }, inc := F64.nearest 1 8, p := F64.nearest 1 8 }))
      = some ⟨1, [0x3FE6A66666666666#64, 0xBFE6A66666666666#64, 0x3FE6A66666666666#64, 0xBFE6A66666666666#64]⟩ ∧
    lastOf (exec .renderLfo (State.reset.setLfo
      { Lfo.powerOn with record := { waveform := .saw, frequencyHz := F64.neg F64.two }, inc := F64.neg F64.half }))
      = some ⟨1, [F64.neg F64.one, F64.one, F64.neg F64.half, F64.half]⟩ := by
  decide +kernel

/-- V3.7: a frequency set at power-on makes the increment infinite; RESET.LFO 8.0 makes it an eighth. -/
theorem test_lfo_increment :
    leaves (·.lfo.inc) (exec .setpLfo { State.reset with lfoStg := { waveform := .triangle, frequencyHz := F64.one } })
      = some (F64.inf false) ∧
    leaves (·.lfo.inc) (exec (.resetLfo (F64.nearest 8 1)) (State.reset.setLfo
      { Lfo.powerOn with record := { waveform := .triangle, frequencyHz := F64.one } })) = some (F64.nearest 1 8) := by
  decide +kernel

/-- The coefficients of V4. -/
def coefV4 : Coef :=
  { Coef.zero with
    a0 := F64.half, a1 := F64.quarter, a2 := F64.nearest 1 8, b1 := F64.neg F64.half, b2 := F64.quarter }

/-- V4.1, first step of each structure, and the registers the rules give. -/
theorem test_biquad_structures :
    leaves (fun t => (t.tx.getLast?, t.biquad.s))
        (exec (.procBiquad F64.one) (State.reset.setBiquad ⟨⟨.direct⟩, coefV4, BqRegs.zero⟩))
      = some (some ⟨1, [F64.half]⟩, ⟨F64.one, 0, F64.half, 0⟩) ∧
    leaves (fun t => (t.tx.getLast?, t.biquad.s))
        (exec (.procBiquad F64.one) (State.reset.setBiquad ⟨⟨.canonical⟩, coefV4, BqRegs.zero⟩))
      = some (some ⟨1, [F64.half]⟩, ⟨F64.one, 0, 0, 0⟩) ∧
    leaves (fun t => (t.tx.getLast?, t.biquad.s))
        (exec (.procBiquad F64.one) (State.reset.setBiquad ⟨⟨.transposeDirect⟩, coefV4, BqRegs.zero⟩))
      = some (some ⟨1, [F64.half]⟩, ⟨F64.quarter, F64.nearest 1 8, F64.half, F64.neg F64.quarter⟩) ∧
    leaves (fun t => (t.tx.getLast?, t.biquad.s))
        (exec (.procBiquad F64.one) (State.reset.setBiquad ⟨⟨.transposeCanonical⟩, coefV4, BqRegs.zero⟩))
      = some (some ⟨1, [F64.half]⟩, ⟨F64.half, 0, 0, 0⟩) := by
  decide +kernel

/-- V4.5: an output below the threshold is flushed and UF reported; V4.4: BQGETS of DIRECT. -/
theorem test_biquad_flush_and_storage :
    lastOf (exec (.procBiquad (F64.nearest 1 (10 ^ 10))) (State.reset.setBiquad
      ⟨⟨.direct⟩, { Coef.zero with a0 := F64.nearest 1 (10 ^ 30) }, BqRegs.zero⟩)) = some ⟨3, [0]⟩ ∧
    lastOf (exec .bqgetsBiquad (State.reset.setBiquad ⟨⟨.direct⟩, coefV4, ⟨F64.one, 0, F64.half, 0⟩⟩))
      = some ⟨1, [F64.half]⟩ ∧
    lastOf (exec .bqgetsBiquad (State.reset.setBiquad ⟨⟨.canonical⟩, coefV4, ⟨F64.one, 0, 0, 0⟩⟩)) = some ⟨1, [0]⟩ := by
  decide +kernel

/-- V4.8: RESET.BIQUAD keeps the coefficients; BQRC and BQWC by slot. -/
theorem test_biquad_coefficients :
    leaves (·.biquad) (exec (.resetBiquad F64.one) (State.reset.setBiquad ⟨⟨.direct⟩, coefV4, ⟨1, 2, 3, 4⟩⟩))
      = some ⟨⟨.direct⟩, coefV4, BqRegs.zero⟩ ∧
    lastOf (exec (.bqrcBiquad 3) (State.reset.setBiquad ⟨⟨.direct⟩, coefV4, BqRegs.zero⟩))
      = some ⟨1, [0xBFE0000000000000#64]⟩ ∧
    leaves (·.biquad.coef) (exec (.bqwcBiquad 6 F64.one) State.reset) = some { Coef.zero with d0 := F64.one } := by
  decide +kernel

/-- V5.6, first sample of the impulse through V5.1; FLRC of c0. -/
theorem test_filter :
    lastOf (exec (.procFilter F64.one) ready) = some ⟨1, [F64.nearest 10801034128727949 (10 ^ 16)]⟩ ∧
    lastOf (exec (.flrcFilter 5) ready) = some ⟨1, [0x3FEFD9305AB7715E#64]⟩ := by
  decide +kernel

/-- V5.5: a non-positive Q is stored as 0.707. V5.10: an unchanged record is not redesigned. -/
theorem test_filter_set :
    leaves (·.filter.record.q) (exec .setpFilter
      { ready with filterStg := { (FilterRec.powerOn .lowShelf) with q := F64.neg F64.one } }) = some F64.q0707 ∧
    leaves (·.filter) (exec .setpFilter ready) = some ready.filter ∧
    leaves (·.filter.sr) (exec (.resetFilter (F64.nearest 96000 1)) ready) = some (F64.nearest 96000 1) := by
  decide +kernel

/-- V6.3, first sample of the impulse. -/
theorem test_shelf : lastOf (exec (.procShelf F64.one) ready) = some ⟨1, [F64.nearest 5670874601132854 (10 ^ 16)]⟩ := by
  decide +kernel

/-- V7.1, second step, and V7.3. -/
theorem test_onepole :
    lastOf (exec (.procOnepole F64.one) (State.reset.setOnepole ⟨⟨F64.half⟩, F64.half⟩)) = some ⟨1, [F64.nearest 3 4]⟩ ∧
    leaves (fun t => (t.tx.getLast?, t.onepole.state))
      (exec (.procOnepole 0) (State.reset.setOnepole ⟨⟨F64.half⟩, F64.nearest 1 (10 ^ 38)⟩))
      = some (some ⟨3, [0]⟩, 0) := by
  decide +kernel

/-- V8.11; a delay of one sample; SDREADP 50 % truncates to delay 0, and SDREADT 1.0 reads delay 1. -/
theorem test_sdelay_reads :
    lastOf (exec (.procSdelay (F64.nearest 7 10)) State.reset) = some ⟨1, [F64.nearest 7 10]⟩ ∧
    leaves (fun t => (t.tx.getLast?, t.sdelay.buf.mem)) (exec (.procSdelay F64.four) ready)
      = some (some ⟨1, [F64.one]⟩, [(0, F64.one), (1, F64.two), (2, F64.four)]) ∧
    lastOf (exec .sdreadSdelay ready) = some ⟨1, [F64.one]⟩ ∧
    lastOf (exec (.sdreadpSdelay (F64.nearest 50 1)) ready) = some ⟨1, [F64.two]⟩ ∧
    lastOf (exec (.sdreadtSdelay F64.one) ready) = some ⟨1, [F64.one]⟩ ∧
    leaves (·.sdelay.buf.w) (exec (.writeSdelay F64.four) ready) = some 3 := by
  decide +kernel

/-- V8.1, V8.9: CREATE at 44100 Hz; RESET at another rate recreates and keeps the latched delay; SETP latches anew. -/
theorem test_sdelay_lengths :
    leaves (fun t => (t.sdelay.spms, t.sdelay.buf.len, t.sdelay.buf.mask))
      (exec (.createSdelay (F64.nearest 44100 1) F64.hundred) State.reset) = some (F64.nearest 441 10, 8192, 8191) ∧
    leaves (fun t => (t.sdelay.spms, t.sdelay.buf.len, t.sdelay.buf.w, t.sdelay.delaySamples))
      (exec (.resetSdelay (F64.nearest 2000 1)) ready) = some (F64.two, 8, 0, F64.one) ∧
    leaves (·.sdelay.delaySamples) (exec .setpSdelay
      { ready with sdelayStg := ⟨F64.nearest 3 1, true⟩, sdelay := { ready.sdelay with spms := F64.two } })
      = some (F64.nearest 6 1) := by
  decide +kernel

/-- V9.1: the recirculated 0.75, and V9.5, the bypass at power-on. -/
theorem test_apf :
    lastOf (exec (.procApf 0) ready) = some ⟨1, [F64.nearest 3 4]⟩ ∧
    lastOf (exec (.procApf (F64.nearest 3 10)) State.reset) = some ⟨1, [F64.nearest 3 10]⟩ := by
  decide +kernel

/-- V9.8: the nested cell returns -0.5 and writes 0.5 into the outer memory. V9.9: both lengths. -/
theorem test_napf :
    leaves (fun t => (t.tx.getLast?, t.napf.outer.sd.buf.mem)) (exec (.procNapf F64.one) ready)
      = some (some ⟨1, [F64.neg F64.half]⟩, [(0, F64.half)]) ∧
    leaves (fun t => (t.napf.outer.sd.buf.len, t.napf.inner.sd.buf.len))
      (exec (.createNapf F64.thousand F64.ten F64.four) State.reset) = some (16, 8) := by
  decide +kernel

/-- Example J8 and V10.1: the tank's memories at 44100 Hz, and a branch delay of 1924.965 samples. -/
theorem test_tank_lifecycle :
    leaves (fun t => (t.tank.pre.buf.len, t.tank.bd.b3.buf.len, t.tank.napf.b2.inner.sd.buf.len))
      (exec (.resetTank (F64.nearest 44100 1)) State.reset) = some (8192, 8192, 8192) ∧
    leaves (·.tank.bd.b1.delaySamples) (exec .setpTank (State.reset.setTank
      { Tank.powerOn with bd := Quad.all { SDelay.powerOn with spms := F64.nearest 441 10 } }))
      = some (F64.nearest 1924965 1000) := by
  decide +kernel

/-- The first frame is the dry path alone (as V10.2, at 0 dB), in the four forms (as V10.3); an f32 word with a high bit is
refused (program P5); V10.9. -/
theorem test_tank_frames :
    lastOf (exec (.frameTank 0x11 [0x3F800000#64]) ready) = some ⟨1, [0x3F800000#64]⟩ ∧
    lastOf (exec (.frameTank 0x22 [0x3F000000#64, 0xBF000000#64]) ready) = some ⟨1, [0x3F000000#64, 0xBF000000#64]⟩ ∧
    lastOf (exec (.frameTank 0x12 [0x3F000000#64]) ready) = some ⟨1, [0x3F000000#64, 0]⟩ ∧
    lastOf (exec (.frameTank 0x21 [0x3F000000#64, 0xBF000000#64]) ready) = some ⟨1, [0x3F000000#64]⟩ ∧
    lastOf (exec (.procTank F64.one) ready) = some ⟨1, [F64.one]⟩ ∧
    lastOf (exec (.frameTank 0x11 [0xFFFFFFFF3F800000#64]) ready) = some ⟨4, []⟩ ∧
    lastOf (exec (.frameTank 0x11 [0x3F800000#64]) State.reset) = some ⟨8, []⟩ := by
  decide +kernel

/-- Records: PSTAGE of kRT and of a code beyond the count, PLOAD, GETP of a read-only view, CANFRAME, and FRAME elsewhere
(40_common.md R170 to R174). -/
theorem test_records :
    leaves (·.tankStg) (exec (.pstageTank 7 F64.half) ready) = some { ready.tankStg with kRT := F64.half } ∧
    lastOf (exec (.pstageLfo 0 3) ready) = some ⟨4, []⟩ ∧ lastOf (exec (.pstageFilter 0 2) ready) = some ⟨4, []⟩ ∧
    leaves (·.tankStg.wetLevelDb) (exec .ploadTank ready) = some 0 ∧ lastOf (exec (.getpTank 14) ready) = some ⟨1, [4]⟩ ∧
    lastOf (exec (.getpFdb 2) ready) = some ⟨1, [2]⟩ ∧ lastOf (exec .canframeTank ready) = some ⟨1, [1]⟩ ∧
    lastOf (exec (.frameBiquad 0x11 [0]) ready) = some ⟨0, []⟩ ∧
    lastOf (exec (.frameBiquad 0x31 [0, 0, 0]) ready) = some ⟨4, []⟩ := by
  decide +kernel

/-- The host's word runs as the first command after power-on, and a refused request is taken whole. -/
theorem test_first_step :
    leaves (fun t => (t.rx, t.tx)) (step (State.reset.withFetchWord 32 0x1C020000)) = some ([], [⟨1, []⟩]) ∧
    leaves (fun t => (t.rx, t.tx)) (step (State.reset.receive (bytesOfNat 12 1 ++ [7]))) = some ([7], [⟨4, []⟩]) := by
  decide +kernel

/-- BOOT and SET are the same sequence of requests for every unit (R126); of FDB's, PLOAD.FDB is the word 0x02020000 of
95_test_vectors.md and no legal pair. -/
theorem test_pseudo_commands :
    (expandBoot .lfo 0x40E5888000000000#64).map (fun r => decodeRequest r) =
      [.ok (.resetLfo 0x40E5888000000000#64), .ok .ploadLfo, .ok .setpLfo] ∧
    (expandSet .tank [(7, F64.half), (12, 0)]).map (fun r => decodeRequest r) =
      [.ok .ploadTank, .ok (.pstageTank 7 F64.half), .ok (.pstageTank 12 0), .ok .setpTank] ∧
    (expandBoot .fdb F64.one).map (fun r => r.cmd) = [0x01020001#32, 0x02020000#32, 0x04020000#32] ∧
    (expandBoot .fdb F64.one).map (fun r => decodeRequest r) =
      [.ok (.resetFdb F64.one), .error .noSuchPair, .error .noSuchPair] ∧
    (expandSet .fdb [(0, F64.one)]).map (fun r => decodeRequest r) = List.replicate 3 (.error .noSuchPair) := by
  decide +kernel

/-- A part of a pseudo-command that is ILLEGAL is answered and leaves the later parts to run (R126). -/
theorem test_pseudo_not_atomic :
    leaves (fun t => (t.rx, t.tx)) (step (State.reset.receive (requestsBytes ((expandBoot .fdb F64.one).drop 1)))) =
      some (requestsBytes ((expandBoot .fdb F64.one).drop 2), [⟨4, []⟩]) := by
  decide +kernel

/-- Every memory is in canonical form at power-on. -/
theorem test_reset_memories : ∀ b ∈ State.reset.buffers, Memory.wf b.len b.mem = true := by decide +kernel

/-! ## Witnesses: states and operands that meet the hypotheses of the statements -/

theorem buf4_ok : buf4.Ok 20 := ⟨⟨2, by decide, rfl⟩, rfl, by decide, by decide⟩

/-- SETI.FDB 0 as its bytes. -/
def setiBytes : List Byte := [0x00, 0x00, 0x02, 0x1C]

/-- SETI.FDB 0 from a state gives a next state. -/
theorem seti_next (s : State) : ∃ t r, exec (.setiFdb false) s = .next t ∧ t.tx = s.tx ++ [r] := ⟨_, _, rfl, rfl⟩

theorem test_witness_DecodeOfEncode :
    (Instr.frameTank 0xFF (List.replicate 255 0)).wf = true ∧ Instr.setpTank.wf = true := by decide +kernel

theorem test_witness_EncodeOfDecode : decode (setiBytes ++ [1]) = some (.ok (.setiFdb false), [1]) := rfl

theorem test_witness_DecoderAcceptsTheTable :
    ([] : List Word64).length = cmdNops 0x1C020100#32 ∧ (⟨"SETI.FDB", 0xFFFFFEFF#32, 0x1C020000#32⟩ : Row) ∈ opcodeRows ∧
      (⟨"SETI.FDB", 0xFFFFFEFF#32, 0x1C020000#32⟩ : Row).has 0x1C020100#32 :=
  ⟨rfl, by decide, rfl⟩

theorem test_witness_RequestsAreFramedByNops :
    (List.replicate 255 (0 : Word64)).length = cmdNops 0x000000FF#32 ∧ ([] : List Word64).length = cmdNops 0#32 ∧
      0 < (⟨0, []⟩ : Request).bytes.length ∧ 3 < (⟨0, []⟩ : Request).bytes.length := by decide +kernel

theorem test_witness_StepRunsDecodedCommand :
    (Instr.setiFdb false).wf = true ∧ (State.reset.setRx (setiBytes ++ [1])).rx = encode (.setiFdb false) ++ [1] ∧
      decode (State.reset.setRx setiBytes).rx = some (.ok (.setiFdb false), []) ∧ takeRequest State.reset.rx = none ∧
      takeRequest (State.reset.setRx [0x00, 0x00, 0x02]).rx = none := ⟨rfl, rfl, rfl, rfl, rfl⟩

theorem test_witness_UnlistedRequestsRefused :
    (State.reset.setRx ((⟨0x1C020200#32, []⟩ : Request).bytes ++ [1])).rx = (⟨0x1C020200#32, []⟩ : Request).bytes ++ [1] ∧
      ([] : List Word64).length = cmdNops 0x1C020200#32 ∧
      ∀ row ∈ opcodeRows, ¬ (0x1C020200#32 &&& row.mask = row.pattern) := by
  refine ⟨rfl, rfl, by decide⟩

theorem test_witness_FormsOutOfRangeRefused : (Instr.getpTank 16).formOk = false ∧ (Instr.getpTank 15).formOk = true := by
  decide

theorem test_witness_UnderflowOnlyFromFlushPoints : (Instr.setiFdb false).flushes = false ∧
    ∃ t r, exec (.setiFdb false) State.reset = .next t ∧ t.tx = State.reset.tx ++ [r] := ⟨rfl, seti_next _⟩

theorem test_witness_UnitsAreIsolated :
    (∃ t, exec (.setiFdb false) State.reset = .next t) ∧ UnitId.tank ≠ (Instr.setiFdb false).unit := ⟨⟨_, rfl⟩, by decide⟩

theorem test_witness_AnswersDependOnTheirUnit :
    sameUnit (Instr.setiFdb false).unit State.reset (State.reset.setOnepoleStg ⟨F64.one⟩) ∧
      (State.reset.setOnepoleStg ⟨F64.one⟩).cfg = State.reset.cfg ∧
      (State.reset.setOnepoleStg ⟨F64.one⟩).draws = State.reset.draws ∧
      ∃ t t', exec (.setiFdb false) State.reset = .next t ∧
        exec (.setiFdb false) (State.reset.setOnepoleStg ⟨F64.one⟩) = .next t' := ⟨rfl, rfl, rfl, _, _, rfl, rfl⟩

theorem test_witness_RecordsChangeOnlyBySetp :
    (Instr.setiFdb false).isSetp = false ∧ ∃ t, exec (.setiFdb false) State.reset = .next t := ⟨rfl, _, rfl⟩

theorem test_witness_StagingChangesOnlyByPloadPstage :
    (Instr.setiFdb false).isStaging = false ∧ ∃ t, exec (.setiFdb false) State.reset = .next t := ⟨rfl, _, rfl⟩

theorem test_witness_ReadCommandsChangeNothing :
    (Instr.getpTank 0).isRead = true ∧ ∃ t, exec (.getpTank 0) State.reset = .next t := ⟨rfl, _, rfl⟩

/-- A created memory and a pending command: the state is well formed and its step is a next state. -/
theorem test_witness_InvKept : ∃ s t : State, s.fdb.alloc = true ∧ s.Inv ∧ step s = .next t := by
  refine ⟨{ State.reset with fdb := buf4, rx := setiBytes }, _, rfl, ⟨?_, ?_, ?_, ?_, ?_, ?_⟩, rfl⟩
  · intro b hb
    have e : ({ State.reset with fdb := buf4, rx := setiBytes } : State).buffers
        = buf4 :: List.replicate 17 Fdb.powerOn := rfl
    rw [e, List.mem_cons] at hb
    rcases hb with rfl | hb
    · exact buf4_ok
    · rw [List.eq_of_mem_replicate hb]
      exact ⟨⟨0, Nat.zero_le _, rfl⟩, rfl, by decide, rfl⟩
  · intro f hf
    simp only [State.filters, List.mem_cons, List.not_mem_nil, or_false] at hf
    rcases hf with h | h | h | h | h | h | h <;> subst h <;>
      exact ⟨rfl, rfl, (by decide : F64.le F64.q0707 F64.zero = false)⟩
  · intro e he
    simp only [State.shelves, List.mem_cons, List.not_mem_nil, or_false] at he
    rcases he with h | h | h <;> subst h <;> exact ⟨rfl, rfl⟩
  · intro n hn
    have e : ({ State.reset with fdb := buf4, rx := setiBytes } : State).napfs = List.replicate 5 Napf.powerOn := rfl
    rw [e] at hn
    rw [List.eq_of_mem_replicate hn]
    exact ⟨rfl, rfl, rfl, rfl, rfl⟩
  · intro a ha
    have e : ({ State.reset with fdb := buf4, rx := setiBytes } : State).apfs = List.replicate 11 Apf.powerOn := rfl
    rw [e] at ha
    rw [List.eq_of_mem_replicate ha]
    rfl
  · intro d hd
    have e : ({ State.reset with fdb := buf4, rx := setiBytes } : State).tank.lines = List.replicate 5 SDelay.powerOn := rfl
    rw [e] at hd
    rw [List.eq_of_mem_replicate hd]
    rfl

theorem test_witness_MemoriesStayCreated :
    ∃ t, step (ready.setRx setiBytes) = .next t ∧ (ready.setRx setiBytes).fdb.alloc = true := ⟨_, rfl, rfl⟩

/-- Finite values, NaNs and infinities of both signs, and zeros: the operands of the arithmetic statements. -/
theorem test_witness_arithmetic :
    ([F64.one, F64.neg F64.one, 0#64, 0x8000000000000000#64, 0x0000000000000001#64, 0x7FEFFFFFFFFFFFFF#64].all fun v =>
      F64.isFinite v && !F64.isNaN v && !F64.isInf v) = true ∧
    (F64.isZero 0#64 = true ∧ F64.isZero 0x8000000000000000#64 = true ∧ F64.isZero 0x0000000000000001#64 = false) ∧
    (F64.isNaN 0x7FF0000000000001#64 = true ∧ F64.isNaN 0xFFFFFFFFFFFFFFFF#64 = true) ∧
    (∀ s, F64.isInf (F64.inf s) = true ∧ F64.isNaN (F64.inf s) = false ∧ F64.isFinite (F64.inf s) = false) ∧
    (F32.isFinite 0x3F800000#32 = true ∧ F32.isFinite 0x00000001#32 = true ∧ F32.isNaN 0x7F800000#32 = false ∧
      F32.isNaN 0x7F800001#32 = true) ∧
    (F64.add? (F64.inf false) (F64.inf true) = none ∧ F64.toF32? 0x7FF0000000000001#64 = none) := by
  decide +kernel

/-- A value below the threshold, the threshold itself, a zero and an infinity. -/
theorem test_witness_FlushRule :
    F64.isFinite F64.one = true ∧ F64.lt F64.zero F64.one = true ∧
    (F64.isFinite F64.half = true ∧ F64.value F64.half ≠ 0 ∧ |F64.value F64.half| < F64.value F64.one) ∧
    F64.value F64.one ≤ |F64.value F64.one| ∧ F64.value 0#64 = 0 ∧ F64.isFinite (F64.inf true) = false ∧
    (F64.lt F64.zero F64.half = true ∧ F64.lt F64.half F64.one = true) ∧ F64.lt F64.one F64.one = false := by
  have h : F64.value F64.half = 1 / 2 := by
    rw [F64.value, show F64.smant F64.half = 2 ^ 52 from by decide,
      show F64.qexp F64.half = -53 from by decide]
    norm_num
  have o : F64.value F64.one = 1 := by
    rw [F64.value, show F64.smant F64.one = 2 ^ 52 from by decide,
      show F64.qexp F64.one = -52 from by decide]
    norm_num
  have z : F64.value 0#64 = 0 := by
    rw [F64.value, show F64.smant 0#64 = 0 from by decide]
    norm_num
  rw [h, o, z]
  refine ⟨by decide, by decide, ⟨by decide, ?_, ?_⟩, ?_, rfl, by decide, by decide, by decide⟩ <;> norm_num

theorem test_witness_MaskedIndexIsModulo : buf4.Ok 20 := buf4_ok

theorem test_witness_MemoryReadsLastWrite : Memory.wf 4 buf4.mem = true ∧ 0 < 4 ∧ 3 < 4 := by decide

theorem test_witness_BufferReadsBack : buf4.Ok 20 ∧ 0 < [F64.one].length ∧ 0 < buf4.len ∧
    3 < [F64.one, 0, F64.one, 0].length ∧ 3 < buf4.len := ⟨buf4_ok, by decide, by decide, by decide, by decide⟩

/-- Delay 1, delay 3 with `D + 1` equal to the length, and delay 4, which is counted as 0. -/
theorem test_witness_DelayLineDelays :
    (∀ ds, (line ds buf4).buf.Ok 20) ∧ (∀ ds, (line ds buf4).buf.interp = false) ∧
    (∀ D ∈ [1, 3, 4], (line (F64.ofInt (D : Nat)) buf4).delaySamples = F64.ofInt (D : Nat) ∧ 1 ≤ D ∧ D ≤ 2 ^ 31 - 2) ∧
    (3 + 1 ≤ buf4.len ∧ 4 < [F64.one, 0, 0, 0, 0].length ∧ 3 + 1 ≤ 4) ∧ 4 % buf4.len + 1 ≤ 1 ∧ 1 < [F64.one, 0].length :=
  ⟨fun _ => ⟨buf4_ok.length, buf4_ok.mask, buf4_ok.cursor, buf4_ok.memory⟩, fun _ => rfl, by decide, by decide, by decide,
    by decide⟩

theorem test_witness_PstageWritesOneField :
    (0#8).toNat < 14 ∧ (13#8).toNat < 14 ∧ codeCount .tank 0 = some 2 ∧ (1#64).toNat < 2 ∧ 2 ≤ (2#64).toNat ∧
      codeCount .tank 13 = none ∧ 14 ≤ (14#8).toNat := by decide

theorem test_witness_GetpReadsField : (15#8).toNat < 16 ∧ 16 ≤ (16#8).toNat := by decide

/-- Legal forms, and a form with the wrong count of operands and one with no channels. -/
theorem test_witness_FrameCapability :
    (∀ sel ∈ [0x11#8, 0x12#8, 0x21#8, 0x22#8], (List.replicate (sel.toNat / 16) (0 : Word64)).length = sel.toNat / 16) ∧
      ¬ (0x11#8 ∈ [0x11#8, 0x12#8, 0x21#8, 0x22#8] ∧ ([] : List Word64).length = (0x11#8).toNat / 16) ∧
      ¬ (0x00#8 ∈ [0x11#8, 0x12#8, 0x21#8, 0x22#8] ∧ ([] : List Word64).length = (0x00#8).toNat / 16) := by decide

/-- A valid rate: that of the plain units and of the tank, and the smallest one. -/
theorem test_witness_ResetPlainUnits :
    F64.isFinite F64.thousand = true ∧ F64.lt F64.zero F64.thousand = true ∧ F64.isFinite 0x0000000000000001#64 = true ∧
      F64.lt F64.zero 0x0000000000000001#64 = true := by decide +kernel

/-- The same rate with a memory created, another rate, a memory that fits and one that does not. -/
theorem test_witness_ResetDelayUnits :
    (F64.eq F64.thousand ready.sdelay.sr = true ∧ ready.sdelay.buf.alloc = true) ∧
    (F64.eq F64.hundred ready.sdelay.sr = false ∧ State.reset.sdelay.buf.alloc = false) ∧
    (fits ready.cfg.lmaxLog2 F64.hundred ready.sdelay.bufMs = true ∧
      fits ready.cfg.lmaxLog2 F64.hundred ready.apf.sd.bufMs = true ∧
      fits ready.cfg.lmaxLog2 F64.hundred ready.napf.outer.sd.bufMs = true ∧
      fits ready.cfg.lmaxLog2 F64.hundred ready.napf.inner.sd.bufMs = true) ∧
    (fits ready.cfg.lmaxLog2 (F64.nearest (10 ^ 12) 1) ready.sdelay.bufMs = false ∧
      fits ready.cfg.lmaxLog2 (F64.nearest (10 ^ 12) 1) ready.napf.inner.sd.bufMs = false ∧
      fits ready.cfg.lmaxLog2 (F64.nearest (10 ^ 12) 1) ready.apf.sd.bufMs = false) := by
  decide +kernel

theorem test_witness_ResetTankCreatesMemories :
    (fits ready.cfg.lmaxLog2 F64.thousand ready.cfg.preBufMs = true ∧
      fits ready.cfg.lmaxLog2 F64.thousand ready.cfg.branchBufMs = true ∧
      fits ready.cfg.lmaxLog2 F64.thousand ready.cfg.apfBufMs = true) ∧
    fits ready.cfg.lmaxLog2 (F64.nearest (10 ^ 12) 1) ready.cfg.preBufMs = false := by
  decide +kernel

theorem test_witness_InvalidRatesRefused :
    F64.lt F64.zero 0#64 = false ∧ F64.lt F64.zero 0x8000000000000000#64 = false ∧ F64.lt F64.zero (F64.neg F64.one) = false ∧
      F64.isFinite (F64.inf false) = false ∧ F64.isFinite 0x7FF8000000000000#64 = false := by decide +kernel

theorem test_witness_ProcSdelayReadsThenWrites :
    F64.eq State.reset.sdelay.delaySamples F64.zero = true ∧ F64.eq ready.sdelay.delaySamples F64.zero = false ∧
      ready.sdelay.buf.alloc = true := by decide +kernel

/-- Bypassed sections, and sections with their memories; the inner section bypassed or with a memory. -/
theorem test_witness_ProcAllpassSections :
    F64.eq State.reset.apf.sd.delaySamples F64.zero = true ∧
    (F64.eq ready.apf.sd.delaySamples F64.zero = false ∧ ready.apf.sd.buf.alloc = true) ∧
    F64.eq State.reset.napf.outer.sd.delaySamples F64.zero = true ∧
    (F64.eq ready.napf.outer.sd.delaySamples F64.zero = false ∧ ready.napf.outer.sd.buf.alloc = true ∧
      F64.eq ready.napf.inner.sd.delaySamples F64.zero = false ∧ ready.napf.inner.sd.buf.alloc = true) ∧
    F64.eq State.reset.napf.inner.sd.delaySamples F64.zero = true := by
  decide +kernel

theorem test_witness_FrameTankRunsOneFrame :
    (∀ b ∈ tankBuffers ready.tank, b.alloc = true) ∧
    ((0x11#8).toNat = 16 * 1 + 1 ∧ (0x12#8).toNat = 16 * 1 + 2 ∧ (0x21#8).toNat = 16 * 2 + 1 ∧
      (0x22#8).toNat = 16 * 2 + 2) ∧
    ((∀ w ∈ [0x3F800000#64, 0xFFFFFFFF#64], w.toNat < 2 ^ 32) ∧ [0x3F800000#64, 0xFFFFFFFF#64].length = 2) ∧
    ∃ w ∈ [0x3F800000#64, 0x100000000#64], 2 ^ 32 ≤ w.toNat :=
  ⟨by decide, by decide, ⟨by simp, rfl⟩, 0x100000000#64, by simp, by decide⟩

theorem test_witness_ProcTankIsMonoFrame :
    (∀ b ∈ tankBuffers ready.tank, b.alloc = true) ∧ F64.toF32? F64.one = some 0x3F800000#32 ∧
      F32.toF64? 0x3F800000#32 = some F64.one := by decide +kernel

theorem test_witness_CoefficientAccess : (0#8).toNat < 7 ∧ (6#8).toNat < 7 ∧ 7 ≤ (7#8).toNat := by decide

/-- The longest length that fits and the next; lines that fit and that do not. -/
theorem test_witness_CreateMakesMemory :
    pow2ceil (max (0x100000#64).toNat 1) ≤ 2 ^ ready.cfg.lmaxLog2 ∧
    2 ^ ready.cfg.lmaxLog2 < pow2ceil (max (0x100001#64).toNat 1) ∧ pow2ceil (max (0#64).toNat 1) ≤ 2 ^ ready.cfg.lmaxLog2 ∧
    (F64.isFinite F64.thousand = true ∧ F64.lt F64.zero F64.thousand = true) ∧
    fits ready.cfg.lmaxLog2 F64.thousand 0 = true ∧ fits ready.cfg.lmaxLog2 F64.thousand F64.hundred = true ∧
    fits ready.cfg.lmaxLog2 F64.thousand (F64.neg F64.one) = false ∧
    fits ready.cfg.lmaxLog2 F64.thousand (F64.inf false) = false ∧
    fits ready.cfg.lmaxLog2 F64.thousand (F64.nearest (10 ^ 9) 1) = false := by
  decide +kernel

/-- The ends of the integer delays, and the first beyond each end. -/
theorem test_witness_FdbAccess :
    (0x7FFFFFFF#64).toInt ≤ 2 ^ 31 - 1 ∧ -2 ^ 31 ≤ (0x7FFFFFFF#64).toInt ∧ 2 ^ 31 - 1 < (0x80000000#64).toInt ∧
    -2 ^ 31 ≤ (0xFFFFFFFF80000000#64).toInt ∧ (0xFFFFFFFF80000000#64).toInt ≤ 2 ^ 31 - 1 ∧
    (0xFFFFFFFF7FFFFFFF#64).toInt < -2 ^ 31 ∧ ready.fdb.alloc = true ∧ ready.fdb.Ok 20 :=
  ⟨by decide, by decide, by decide, by decide, by decide, by decide, rfl, buf4_ok⟩

theorem test_witness_DelayLineAccess : ready.sdelay.buf.alloc = true := rfl

/-- Memories that were never created, with a delay latched where the command needs one; and a nested cell whose inner memory
alone is missing. -/
theorem test_witness_NotReadyWithoutMemory :
    State.reset.fdb.alloc = false ∧ State.reset.sdelay.buf.alloc = false ∧
    (F64.eq (line F64.one Fdb.powerOn).delaySamples F64.zero = false ∧ (line F64.one Fdb.powerOn).buf.alloc = false) ∧
    (F64.eq (apfOn F64.half F64.one Fdb.powerOn).sd.delaySamples F64.zero = false ∧
      (apfOn F64.half F64.one Fdb.powerOn).sd.buf.alloc = false ∧
      (apfOn F64.half F64.one empty4).sd.buf.alloc = true) ∧
    (∃ b ∈ tankBuffers State.reset.tank, b.alloc = false) := by
  decide +kernel

end Sys2Proof.Tests
end

section
/-! PROOFS. The default values (spec/00_scope.md R6 to R8, 49_reverb_tank.md R450, R451) and `pow2ceil` (00_scope.md
R17). -/

namespace Sys2Proof.Machine

/-- A power of two that is at least `n` is at least `pow2ceil n` (00_scope.md R17). -/
theorem pow2ceil_le_pow {n k : Nat} (h : n ≤ 2 ^ k) : pow2ceil n ≤ 2 ^ k := by
  unfold pow2ceil
  split
  · exact Nat.one_le_two_pow
  · next hn =>
    have hlog : Nat.log2 (n - 1) < k := (Nat.log2_lt (by omega)).2 (by omega)
    exact Nat.pow_le_pow_right (by decide) hlog

theorem le_pow2ceil (n : Nat) : n ≤ pow2ceil n := by
  unfold pow2ceil
  split
  · assumption
  · have := Nat.lt_log2_self (n := n - 1)
    omega

end Sys2Proof.Machine

open Sys2Proof.Machine

/-- Settles O30: `pow2ceil n` is a power of two, at least `n`, and below no other such power. -/
theorem pow2ceilIsSmallest : Obligations.Pow2ceilIsSmallest := fun n =>
  ⟨pow2ceil_eq_pow n, le_pow2ceil n, fun _ => pow2ceil_le_pow⟩

/-- Settles O60: the numerals of the model against the nearest value of each decimal, by evaluation. -/
theorem constantsAtReset : Obligations.ConstantsAtReset := by
  unfold Obligations.ConstantsAtReset
  decide
end

section
/-! PROOFS. What rounding is made of (spec/00_scope.md R15): the magnitudes of a format in units of its subnormals' last
place, and rounding a shifted integer to the nearest one. -/

namespace Sys2Proof.Machine

/-! ### The magnitudes of a format -/

/-- The magnitude of pattern `k` (a pattern without its sign), in units of the subnormals' last place `2 ^ f.qmin`. The
exponent is not bounded: the patterns from `f.inf` on continue the finite ones. -/
def Fmt.units (f : Fmt) (k : Nat) : Nat :=
  (if k / 2 ^ f.fb = 0 then k % 2 ^ f.fb else 2 ^ f.fb + k % 2 ^ f.fb) * 2 ^ (k / 2 ^ f.fb - 1)

/-- `n` is a significand of last place `2 ^ t`, in units: no more than `f.fb + 1` bits, and normal unless `t` is 0. -/
structure Fmt.IsSignificand (f : Fmt) (t n : Nat) : Prop where
  normal : t = 0 ∨ 2 ^ f.fb ≤ n
  lt : n < 2 ^ (f.fb + 1)

/-- Every pattern is a last place and a significand. -/
theorem Fmt.exists_significand (f : Fmt) (k : Nat) : ∃ t n, f.IsSignificand t n ∧ k = t * 2 ^ f.fb + n := by
  have hpos : 0 < 2 ^ f.fb := Nat.two_pow_pos _
  have hdiv : 2 ^ f.fb * (k / 2 ^ f.fb) + k % 2 ^ f.fb = k := Nat.div_add_mod _ _
  have hmod : k % 2 ^ f.fb < 2 ^ f.fb := Nat.mod_lt _ hpos
  rcases hE : k / 2 ^ f.fb with _ | E
  · rw [hE] at hdiv
    exact ⟨0, k, ⟨.inl rfl, by rw [pow_succ]; omega⟩, by simp⟩
  · rw [hE] at hdiv
    refine ⟨E, 2 ^ f.fb + k % 2 ^ f.fb, ⟨.inr (by omega), by rw [pow_succ]; omega⟩, ?_⟩
    rw [← hdiv]; simp; ring

theorem Fmt.units_of_significand {f : Fmt} {t n : Nat} (h : f.IsSignificand t n) :
    f.units (t * 2 ^ f.fb + n) = n * 2 ^ t := by
  have hpos : 0 < 2 ^ f.fb := Nat.two_pow_pos _
  have hlt := h.lt
  rw [pow_succ] at hlt
  by_cases hn : n < 2 ^ f.fb
  · obtain rfl : t = 0 := h.normal.resolve_right (by omega)
    simp [units, Nat.div_eq_of_lt hn, Nat.mod_eq_of_lt hn]
  · obtain ⟨r, rfl⟩ : ∃ r, n = 2 ^ f.fb + r := ⟨n - 2 ^ f.fb, by omega⟩
    have hr : r < 2 ^ f.fb := by omega
    have hk : t * 2 ^ f.fb + (2 ^ f.fb + r) = r + 2 ^ f.fb * (t + 1) := by ring
    have hE : (r + 2 ^ f.fb * (t + 1)) / 2 ^ f.fb = t + 1 := by
      rw [Nat.add_mul_div_left _ _ hpos, Nat.div_eq_of_lt hr, Nat.zero_add]
    simp [units, hk, hE, Nat.add_mul_mod_self_left, Nat.mod_eq_of_lt hr]

/-- The carry of a significand that rounds up to `2 ^ (f.fb + 1)` is the next exponent's first significand. -/
theorem Fmt.units_grid {f : Fmt} {t n : Nat} (hnorm : t = 0 ∨ 2 ^ f.fb ≤ n) (hle : n ≤ 2 ^ (f.fb + 1)) :
    f.units (t * 2 ^ f.fb + n) = n * 2 ^ t := by
  rcases hle.lt_or_eq with hlt | rfl
  · exact units_of_significand ⟨hnorm, hlt⟩
  · have hs : f.IsSignificand (t + 1) (2 ^ f.fb) := ⟨.inr le_rfl, Nat.pow_lt_pow_right (by decide) (by omega)⟩
    calc f.units (t * 2 ^ f.fb + 2 ^ (f.fb + 1))
        = f.units ((t + 1) * 2 ^ f.fb + 2 ^ f.fb) := by congr 1; ring
      _ = 2 ^ f.fb * 2 ^ (t + 1) := units_of_significand hs
      _ = 2 ^ (f.fb + 1) * 2 ^ t := by ring

theorem Fmt.units_strictMono (f : Fmt) : StrictMono f.units := by
  refine strictMono_nat_of_lt_succ fun k => ?_
  obtain ⟨t, n, hs, rfl⟩ := f.exists_significand k
  have hnext : f.units (t * 2 ^ f.fb + (n + 1)) = (n + 1) * 2 ^ t :=
    units_grid (hs.normal.imp_right Nat.le_succ_of_le) hs.lt
  rw [units_of_significand hs, add_assoc, hnext]
  exact Nat.mul_lt_mul_of_pos_right (Nat.lt_succ_self n) (Nat.two_pow_pos t)

@[simp] theorem Fmt.units_zero (f : Fmt) : f.units 0 = 0 := by simp [units]

/-- A magnitude is a multiple of the last place `2 ^ t`, or below the normal significands of that place. -/
theorem Fmt.units_multiple_or_lt (f : Fmt) (t k : Nat) :
    (∃ j, f.units k = j * 2 ^ t) ∨ (t ≠ 0 ∧ f.units k < 2 ^ f.fb * 2 ^ t) := by
  obtain ⟨t', n, hs, rfl⟩ := f.exists_significand k
  rw [units_of_significand hs]
  rcases le_or_gt t t' with hle | hgt
  · refine .inl ⟨n * 2 ^ (t' - t), ?_⟩
    rw [mul_assoc, ← pow_add, Nat.sub_add_cancel hle]
  · refine .inr ⟨by omega, ?_⟩
    calc n * 2 ^ t' < 2 ^ (f.fb + 1) * 2 ^ t' := Nat.mul_lt_mul_of_pos_right hs.lt (Nat.two_pow_pos _)
      _ = 2 ^ f.fb * 2 ^ (t' + 1) := by ring
      _ ≤ 2 ^ f.fb * 2 ^ t := Nat.mul_le_mul_left _ (Nat.pow_le_pow_right (by decide) hgt)

/-- Every number of at most `f.fb + 1` bits times a power of two is a magnitude of the format. -/
theorem Fmt.exists_units_eq (f : Fmt) (t : Nat) : ∀ n, n < 2 ^ (f.fb + 1) → ∃ k, f.units k = n * 2 ^ t := by
  induction t with
  | zero => exact fun n hn => ⟨_, units_of_significand ⟨.inl rfl, hn⟩⟩
  | succ t ih =>
    intro n hn
    rcases le_or_gt (2 ^ f.fb) n with hnorm | hsub
    · exact ⟨_, units_of_significand ⟨.inr hnorm, hn⟩⟩
    · obtain ⟨k, hk⟩ := ih (2 * n) (by rw [pow_succ]; omega)
      exact ⟨k, by rw [hk]; ring⟩

theorem Fmt.two_pow_qmin_pos (f : Fmt) : (0 : ℚ) < 2 ^ f.qmin := by positivity

/-! ### Rounding to an integer -/

/-- `n` is the integer nearest to `z`, the even one of two. -/
structure NearestInt (z : ℚ) (n : Nat) : Prop where
  above : 2 * z ≤ 2 * n + 1
  below : 2 * (n : ℚ) ≤ 2 * z + 1
  tie : 2 * z = 2 * n + 1 ∨ 2 * (n : ℚ) = 2 * z + 1 → n % 2 = 0

theorem nearestInt_natCast (n : Nat) : NearestInt n n where
  above := by linarith
  below := by linarith
  tie h := by rcases h with h | h <;> linarith

theorem NearestInt.dist_le {z : ℚ} {n : Nat} (h : NearestInt z n) : |(n : ℚ) - z| ≤ 1 / 2 := by
  have := h.above
  have := h.below
  rw [abs_le]
  constructor <;> linarith

/-- Any other integer is farther away, or as far from a half and the nearest one is even. -/
theorem NearestInt.closest {z : ℚ} {n j : Nat} (h : NearestInt z n) (hj : j ≠ n) :
    |(n : ℚ) - z| < |(j : ℚ) - z| ∨ |(n : ℚ) - z| = |(j : ℚ) - z| ∧ n % 2 = 0 := by
  have hapart : (1 : ℚ) ≤ |(j : ℚ) - n| := by
    exact_mod_cast Int.one_le_abs (sub_ne_zero.2 (Int.ofNat_inj.not.2 hj))
  have htri : |(j : ℚ) - n| ≤ |(j : ℚ) - z| + |(n : ℚ) - z| := by
    rw [abs_sub_comm (n : ℚ) z]
    exact abs_sub_le _ _ _
  have hdist := h.dist_le
  rcases lt_or_eq_of_le (show |(n : ℚ) - z| ≤ |(j : ℚ) - z| by linarith) with hlt | heq
  · exact .inl hlt
  · have hhalf : |(n : ℚ) - z| = 1 / 2 := by linarith
    refine .inr ⟨heq, h.tie ?_⟩
    rcases eq_or_eq_neg_of_abs_eq hhalf with e | e
    · exact .inr (by linarith)
    · exact .inl (by linarith)

theorem NearestInt.dist_le_dist {z : ℚ} {n : Nat} (h : NearestInt z n) (j : Nat) : |(n : ℚ) - z| ≤ |(j : ℚ) - z| := by
  by_cases hj : j = n
  · rw [hj]
  · exact (h.closest hj).elim le_of_lt fun e => e.1.le

theorem NearestInt.le_of_le {z : ℚ} {n b : Nat} (h : NearestInt z n) (hz : z ≤ b) : n ≤ b := by
  have hbelow := h.below
  have : ((2 * n : Nat) : ℚ) ≤ ((2 * b + 1 : Nat) : ℚ) := by push_cast; linarith
  have := Nat.cast_le.1 this
  omega

theorem NearestInt.ge_of_ge {z : ℚ} {n b : Nat} (h : NearestInt z n) (hz : b ≤ z) : b ≤ n := by
  have habove := h.above
  have : ((2 * b : Nat) : ℚ) ≤ ((2 * n + 1 : Nat) : ℚ) := by push_cast; linarith
  have := Nat.cast_le.1 this
  omega

/-- `X` lies to the multiples of `g` as the integer `m` does. -/
def SameSide (g : Nat) (X : ℚ) (m : Nat) : Prop :=
  ∀ j : Nat, (((g * j : Nat) : ℚ) ≤ X ↔ g * j ≤ m) ∧ (X ≤ ((g * j : Nat) : ℚ) ↔ m ≤ g * j)

theorem sameSide_natCast (g m : Nat) : SameSide g m m := fun _ => ⟨Nat.cast_le, Nat.cast_le⟩

theorem SameSide.of_dvd {g g' m : Nat} {X : ℚ} (h : SameSide g X m) (hd : g ∣ g') : SameSide g' X m := by
  obtain ⟨c, rfl⟩ := hd
  intro j
  rw [mul_assoc]
  exact h (c * j)

theorem SameSide.nonneg {g m : Nat} {X : ℚ} (h : SameSide g X m) : 0 ≤ X := by
  simpa using (h 0).1

theorem roundShift_eq (m d : Nat) : roundShift m d =
    if 2 ^ d < 2 * (m % 2 ^ d) ∨ (2 * (m % 2 ^ d) = 2 ^ d ∧ m / 2 ^ d % 2 = 1) then m / 2 ^ d + 1 else m / 2 ^ d := by
  rw [← Nat.shiftRight_eq_div_pow]; rfl

/-- `roundShift` in halves: `m` less than a half beyond the result, no more than a half below it, and even at a half. -/
theorem roundShift_halves (m d : Nat) :
    m ≤ 2 ^ d * (2 * roundShift m (d + 1) + 1) ∧ 2 ^ d * (2 * roundShift m (d + 1)) ≤ m + 2 ^ d ∧
    (m = 2 ^ d * (2 * roundShift m (d + 1) + 1) ∨ 2 ^ d * (2 * roundShift m (d + 1)) = m + 2 ^ d →
      roundShift m (d + 1) % 2 = 0) := by
  have hpos : 0 < 2 ^ d := Nat.two_pow_pos d
  have hm := Nat.div_add_mod m (2 ^ (d + 1))
  have hr := Nat.mod_lt m (Nat.two_pow_pos (d + 1))
  rw [roundShift_eq]
  rw [pow_succ] at *
  generalize m / (2 ^ d * 2) = n at *
  generalize m % (2 ^ d * 2) = r at *
  generalize 2 ^ d = h at *
  have e0 : h * (2 * n) = h * 2 * n := by ring
  have e1 : h * (2 * n + 1) = h * 2 * n + h := by ring
  have e2 : h * (2 * (n + 1)) = h * 2 * n + 2 * h := by ring
  have e3 : h * (2 * (n + 1) + 1) = h * 2 * n + 3 * h := by ring
  split
  · rw [e2, e3]; omega
  · rw [e0, e1]; omega

theorem nearestInt_roundShift {m d : Nat} {X : ℚ} (hX : SameSide (2 ^ d) X m) :
    NearestInt (X / 2 ^ (d + 1)) (roundShift m (d + 1)) := by
  obtain ⟨habove, hbelow, htie⟩ := roundShift_halves m d
  generalize roundShift m (d + 1) = n at *
  have hpos : (0 : ℚ) < 2 ^ d := by positivity
  have hz : 2 * (X / 2 ^ (d + 1)) = X / 2 ^ d := by rw [pow_succ]; field_simp
  have hX0 := hX.nonneg
  obtain ⟨hup, hup'⟩ := hX (2 * n + 1)
  have above : 2 * (X / 2 ^ (d + 1)) ≤ 2 * n + 1 := by
    rw [hz, div_le_iff₀ hpos]
    have := hup'.2 habove
    push_cast at this; linarith
  have up_eq : 2 * (X / 2 ^ (d + 1)) = 2 * n + 1 → m = 2 ^ d * (2 * n + 1) := by
    intro h
    rw [hz, div_eq_iff hpos.ne'] at h
    exact le_antisymm habove (hup.1 (by push_cast; linarith))
  rcases n with _ | n
  · exact ⟨above, by simp; positivity, fun _ => rfl⟩
  obtain ⟨hlo, hlo'⟩ := hX (2 * n + 1)
  have e : 2 ^ d * (2 * (n + 1)) = 2 ^ d * (2 * n + 1) + 2 ^ d := by ring
  rw [e] at hbelow htie
  refine ⟨above, ?_, fun h => htie (h.imp up_eq fun h => ?_)⟩
  · have := hlo.2 (by omega)
    rw [hz, ← sub_le_iff_le_add, le_div_iff₀ hpos]
    push_cast at this ⊢; linarith
  · rw [hz, ← sub_eq_iff_eq_add, eq_div_iff hpos.ne'] at h
    have := hlo'.1 (by push_cast at h ⊢; linarith)
    omega

end Sys2Proof.Machine
end

section
/-! PROOFS. `roundMag` gives the nearest magnitude (spec/00_scope.md R15), with the exponent not bounded and then capped
at infinity. -/

namespace Sys2Proof.Machine

/-! ### Rounding to a magnitude -/

/-- The magnitude of pattern `r` is nearer to `y` than every other, or as near as another one and even. The exponent is
not bounded. -/
def Fmt.IsNearestEven (f : Fmt) (y : ℚ) (r : Nat) : Prop :=
  ∀ k, k ≠ r →
    |(f.units r : ℚ) - y| < |(f.units k : ℚ) - y| ∨ |(f.units r : ℚ) - y| = |(f.units k : ℚ) - y| ∧ r % 2 = 0

theorem Fmt.IsNearestEven.dist_le_dist {f : Fmt} {y : ℚ} {r : Nat} (h : f.IsNearestEven y r) (k : Nat) :
    |(f.units r : ℚ) - y| ≤ |(f.units k : ℚ) - y| := by
  by_cases hk : k = r
  · rw [hk]
  · exact (h k hk).elim le_of_lt fun e => e.1.le

/-- A significand rounded to an integer is the nearest magnitude: below its exponent every magnitude is farther. -/
theorem Fmt.isNearestEven_grid {f : Fmt} (hfb : f.fb ≠ 0) {t n : Nat} {z : ℚ} (hn : NearestInt z n)
    (hnorm : t = 0 ∨ 2 ^ f.fb ≤ z) (hlt : z < 2 ^ (f.fb + 1)) :
    f.IsNearestEven (z * 2 ^ t) (t * 2 ^ f.fb + n) := by
  have hpos : (0 : ℚ) < 2 ^ t := by positivity
  have hle : n ≤ 2 ^ (f.fb + 1) := hn.le_of_le (by push_cast; exact hlt.le)
  have hnorm' : t = 0 ∨ 2 ^ f.fb ≤ n := hnorm.imp_right fun hz => hn.ge_of_ge (by push_cast; exact hz)
  have hr : f.units (t * 2 ^ f.fb + n) = n * 2 ^ t := units_grid hnorm' hle
  have heven : (t * 2 ^ f.fb + n) % 2 = n % 2 := by
    obtain ⟨b, hb⟩ := Nat.exists_eq_succ_of_ne_zero hfb
    rw [hb, pow_succ, ← mul_assoc, Nat.mul_add_mod_self_right]
  have hscale (j : Nat) : |((j * 2 ^ t : Nat) : ℚ) - z * 2 ^ t| = |(j : ℚ) - z| * 2 ^ t := by
    push_cast
    rw [← sub_mul, abs_mul, abs_of_pos hpos]
  intro k hk
  rcases f.units_multiple_or_lt t k with ⟨j, hj⟩ | ⟨ht, hk'⟩
  · have hjn : j ≠ n := by
      rintro rfl
      exact hk (f.units_strictMono.injective (hj.trans hr.symm))
    rw [hr, hj, hscale, hscale, heven]
    exact (hn.closest hjn).imp (fun h => mul_lt_mul_of_pos_right h hpos) (fun h => ⟨by rw [h.1], h.2⟩)
  · left
    have hz := hnorm.resolve_left ht
    have hk'' : (f.units k : ℚ) < 2 ^ f.fb * 2 ^ t := by exact_mod_cast hk'
    have hnear : |(n : ℚ) - z| ≤ z - 2 ^ f.fb := by
      have hd := hn.dist_le_dist (2 ^ f.fb)
      rwa [abs_sub_comm ((2 ^ f.fb : Nat) : ℚ), Nat.cast_pow, Nat.cast_ofNat, abs_of_nonneg (sub_nonneg.2 hz)] at hd
    calc |(f.units (t * 2 ^ f.fb + n) : ℚ) - z * 2 ^ t| = |(n : ℚ) - z| * 2 ^ t := by rw [hr, hscale]
      _ ≤ (z - 2 ^ f.fb) * 2 ^ t := by gcongr
      _ < z * 2 ^ t - f.units k := by linarith
      _ ≤ |(f.units k : ℚ) - z * 2 ^ t| := by rw [abs_sub_comm]; exact le_abs_self _

/-- What `roundMag` may be given for the number `X`: `X` itself; or an integer with two bits more than the format's
significand that lies to the even numbers as `X` does, which is enough to round `X` (the sticky bit of a quotient). -/
def Fmt.Represents (f : Fmt) (m : Nat) (X : ℚ) : Prop :=
  X = m ∨ SameSide 2 X m ∧ f.fb + 2 ≤ Nat.log2 m

theorem Fmt.Represents.sameSide {f : Fmt} {m d : Nat} {X : ℚ} (h : f.Represents m X)
    (hd : Nat.log2 m ≤ f.fb + d) : SameSide (2 ^ (d - 1)) X m := by
  rcases h with rfl | ⟨hs, hl⟩
  · exact sameSide_natCast _ _
  · exact hs.of_dvd (dvd_pow_self 2 (by omega))

theorem Fmt.Represents.log2_bounds {f : Fmt} {m : Nat} {X : ℚ} (h : f.Represents m X) (hm : m ≠ 0) :
    2 ^ Nat.log2 m ≤ X ∧ X < 2 ^ (Nat.log2 m + 1) := by
  have hlo := Nat.log2_self_le hm
  have hhi := Nat.lt_log2_self (n := m)
  rcases h with rfl | ⟨hs, hl⟩
  · exact ⟨by exact_mod_cast hlo, by exact_mod_cast hhi⟩
  · have hs1 := hs.of_dvd (g' := 2 ^ Nat.log2 m) (dvd_pow_self 2 (by omega))
    obtain ⟨h1, -⟩ := hs1 1
    obtain ⟨h2, -⟩ := hs1 2
    rw [← pow_succ] at h2
    push_cast [mul_one] at h1 h2
    exact ⟨h1.2 hlo, not_le.1 fun h => by have := h2.1 h; omega⟩

/-- The two ways in which `roundMag` brings its operand to the last place `2 ^ q`, exact or rounded. -/
theorem Fmt.Represents.nearestInt {f : Fmt} {m : Nat} {X : ℚ} {e q : Int} (hX : f.Represents m X)
    (hq : Nat.log2 m + e - f.fb ≤ q) :
    NearestInt (X * 2 ^ (e - q)) (if q ≤ e then m <<< (e - q).toNat else roundShift m (q - e).toNat) := by
  split
  · next hqe =>
    obtain rfl : X = m := hX.resolve_right fun h => by omega
    obtain ⟨i, hi⟩ : ∃ i : Nat, e - q = i := ⟨(e - q).toNat, by omega⟩
    have hexact : (m : ℚ) * 2 ^ (e - q) = (m <<< (e - q).toNat : Nat) := by simp [hi, Nat.shiftLeft_eq]
    rw [hexact]
    exact nearestInt_natCast _
  · next hqe =>
    obtain ⟨d, hd⟩ : ∃ d : Nat, q - e = d + 1 := ⟨(q - e - 1).toNat, by omega⟩
    have hz : X * 2 ^ (e - q) = X / 2 ^ (d + 1) := by
      rw [← neg_sub, hd, zpow_neg, div_eq_mul_inv]; norm_cast
    rw [hz, hd]
    exact nearestInt_roundShift (hX.sameSide (d := d + 1) (by omega))

/-- `roundMag` is the nearest magnitude, capped at infinity. -/
theorem Fmt.exists_nearest_roundMag {f : Fmt} (hfb : f.fb ≠ 0) {m : Nat} {X : ℚ} (hX : f.Represents m X) (e : Int) :
    ∃ r, roundMag f m e = min r f.inf ∧ f.IsNearestEven (X * 2 ^ (e - f.qmin)) r := by
  by_cases hm : m = 0
  · subst hm
    have hX0 : X = 0 := by simpa [Represents, Nat.log2_zero] using hX
    refine ⟨0, by simp [roundMag], fun k hk => .inl ?_⟩
    have := f.units_strictMono (Nat.pos_of_ne_zero hk)
    simp only [hX0, zero_mul, sub_zero, Nat.abs_cast]
    exact_mod_cast this
  set q : Int := max ((Nat.log2 m : Int) + e - f.fb) f.qmin with hq
  set n := if q ≤ e then m <<< (e - q).toNat else roundShift m (q - e).toNat with hn
  obtain ⟨t, ht⟩ : ∃ t : Nat, q - f.qmin = t := ⟨(q - f.qmin).toNat, by omega⟩
  refine ⟨t * 2 ^ f.fb + n, by simp [roundMag, hm, ← hq, ← hn, ht], ?_⟩
  obtain ⟨hlo, hhi⟩ := hX.log2_bounds hm
  have hpos : (0 : ℚ) < 2 ^ (e - q) := by positivity
  have hsplit : X * 2 ^ (e - f.qmin) = X * 2 ^ (e - q) * 2 ^ t := by
    rw [mul_assoc, ← zpow_natCast, ← zpow_add₀ two_ne_zero, ← ht]; congr 2; ring
  rw [hsplit]
  refine isNearestEven_grid hfb ?_ ?_ ?_
  · exact hX.nearestInt (le_max_left _ _)
  · refine or_iff_not_imp_left.2 fun ht0 => ?_
    have hexp : (f.fb : Int) = Nat.log2 m + (e - q) := by omega
    calc (2 : ℚ) ^ f.fb = 2 ^ Nat.log2 m * 2 ^ (e - q) := by
          rw [← zpow_natCast, ← zpow_natCast, ← zpow_add₀ two_ne_zero, ← hexp]
      _ ≤ X * 2 ^ (e - q) := by gcongr
  · have hexp : (Nat.log2 m + 1 : Nat) + (e - q) ≤ ((f.fb + 1 : Nat) : Int) := by omega
    calc X * 2 ^ (e - q) < 2 ^ (Nat.log2 m + 1) * 2 ^ (e - q) := by gcongr
      _ = 2 ^ ((Nat.log2 m + 1 : Nat) + (e - q) : Int) := by rw [zpow_add₀ two_ne_zero, zpow_natCast]
      _ ≤ 2 ^ ((f.fb + 1 : Nat) : Int) := zpow_le_zpow_right₀ one_le_two hexp
      _ = 2 ^ (f.fb + 1) := zpow_natCast _ _

end Sys2Proof.Machine
end

section
/-! PROOFS. Rounding of signed numbers: the nearest of all numbers of the format, even at a tie, and where it overflows
(spec/00_scope.md R15, R17). -/

namespace Sys2Proof.Machine

/-- A magnitude of the format is its own rounding. -/
theorem Fmt.IsNearestEven.eq_of_units {f : Fmt} {k r : Nat} (h : f.IsNearestEven (f.units k) r) : r = k := by
  have hdist := h.dist_le_dist k
  rw [sub_self, abs_zero, abs_nonpos_iff, sub_eq_zero, Nat.cast_inj] at hdist
  exact f.units_strictMono.injective hdist

/-- Rounding stays below an even pattern `j + 1` exactly below the midpoint of `j` and `j + 1`: at the midpoint `j`, which
is odd, gives way. -/
theorem Fmt.IsNearestEven.lt_iff_of_odd {f : Fmt} {y : ℚ} {j r : Nat} (h : f.IsNearestEven y r) (hj : j % 2 = 1) :
    r < j + 1 ↔ 2 * y < f.units j + f.units (j + 1) := by
  have hstep : (f.units j : ℚ) < f.units (j + 1) := by exact_mod_cast f.units_strictMono (Nat.lt_succ_self j)
  constructor
  · intro hr
    have hrj : (f.units r : ℚ) ≤ f.units j := by
      exact_mod_cast f.units_strictMono.monotone (Nat.le_of_lt_succ hr)
    by_contra hy
    have hnear : |(f.units (j + 1) : ℚ) - y| ≤ y - f.units j := by rw [abs_le]; constructor <;> linarith
    have hfar : y - f.units j ≤ |(f.units r : ℚ) - y| := by
      rw [abs_sub_comm]
      exact le_trans (by linarith) (le_abs_self _)
    rcases h (j + 1) (by omega) with hlt | ⟨heq, heven⟩
    · linarith
    · have hle : y - f.units r ≤ y - f.units j := le_trans (le_abs_self _) (by rw [abs_sub_comm]; linarith)
      have : f.units j = f.units r := by
        have : (f.units j : ℚ) = f.units r := by linarith
        exact_mod_cast this
      have := f.units_strictMono.injective this
      omega
  · intro hy
    by_contra hr
    have hrj : (f.units (j + 1) : ℚ) ≤ f.units r := by
      exact_mod_cast f.units_strictMono.monotone (not_lt.1 hr)
    have hfar : f.units r - y ≤ |(f.units r : ℚ) - y| := le_abs_self _
    have hnear : |(f.units j : ℚ) - y| < f.units r - y := by rw [abs_lt]; constructor <;> linarith
    rcases h j (by omega) with hlt | heq
    · linarith
    · linarith [heq.1]

/-! ### Overflow -/

/-- The least magnitude that rounds to infinity: a half place above the greatest finite one. -/
def Fmt.overflow (f : Fmt) : ℚ := (2 ^ (f.fb + 2) - 1) * 2 ^ ((2 ^ f.eb : Nat) - 4 + f.qmin : Int)

/-- A format has a fraction, and exponents besides those of zero and infinity. -/
structure Fmt.Ok (f : Fmt) : Prop where
  fb : f.fb ≠ 0
  eb : 2 ≤ f.eb

theorem Fmt.b64_ok : Fmt.b64.Ok := ⟨by decide, by decide⟩
theorem Fmt.b32_ok : Fmt.b32.Ok := ⟨by decide, by decide⟩

/-- The pattern of infinity follows an odd one, the greatest finite pattern; their magnitudes are the overflow bound's two
neighbours. -/
theorem Fmt.Ok.exists_maxFinite {f : Fmt} (hf : f.Ok) : ∃ j, f.inf = j + 1 ∧ j % 2 = 1 ∧
    ((f.units j : ℚ) + f.units (j + 1)) * 2 ^ f.qmin = 2 * f.overflow := by
  obtain ⟨E, hE⟩ : ∃ E, 2 ^ f.eb = E + 3 := by
    have : 2 ^ 2 ≤ 2 ^ f.eb := Nat.pow_le_pow_right (by decide) hf.eb
    exact ⟨2 ^ f.eb - 3, by omega⟩
  obtain ⟨b, hb⟩ := Nat.exists_eq_succ_of_ne_zero hf.fb
  have hpos : 0 < 2 ^ b := Nat.two_pow_pos b
  have hinf : f.inf = E * 2 ^ f.fb + 2 ^ (f.fb + 1) := by
    rw [inf, hE, Nat.add_succ_sub_one]; ring
  have hinf' : E * 2 ^ f.fb + 2 ^ (f.fb + 1) = E * 2 ^ f.fb + (2 ^ (f.fb + 1) - 1) + 1 := by
    have := Nat.two_pow_pos (f.fb + 1)
    omega
  refine ⟨E * 2 ^ f.fb + (2 ^ (f.fb + 1) - 1), hinf.trans hinf', ?_, ?_⟩
  · rw [hb, pow_succ _ (b + 1), pow_succ, ← mul_assoc]; omega
  have hmax : f.units (E * 2 ^ f.fb + (2 ^ (f.fb + 1) - 1)) = (2 ^ (f.fb + 1) - 1) * 2 ^ E :=
    units_grid (.inr (by rw [pow_succ, hb, pow_succ]; omega)) (Nat.sub_le _ _)
  have htop : f.units (E * 2 ^ f.fb + 2 ^ (f.fb + 1)) = 2 ^ (f.fb + 1) * 2 ^ E :=
    units_grid (.inr (Nat.pow_le_pow_right (by decide) (Nat.le_succ _))) le_rfl
  have hexp : ((2 ^ f.eb : Nat) - 4 + f.qmin : Int) = E + f.qmin - 1 := by rw [hE]; push_cast; ring
  rw [← hinf', hmax, htop, overflow, hexp, zpow_sub₀ two_ne_zero, zpow_add₀ two_ne_zero, zpow_natCast]
  push_cast [Nat.one_le_two_pow]
  ring

/-! ### Signed values and rounding -/

/-- The number of sign `s` and magnitude pattern `k`. -/
def Fmt.signed (f : Fmt) (s : Bool) (k : Nat) : ℚ := (if s then -1 else 1) * (f.units k * 2 ^ f.qmin)

theorem Fmt.signed_abs (f : Fmt) (s : Bool) (k : Nat) : |f.signed s k| = f.units k * 2 ^ f.qmin := by
  have : (0 : ℚ) ≤ f.units k * 2 ^ f.qmin := by positivity
  cases s <;> simp [signed, abs_of_nonneg this]

theorem Fmt.signed_sign {f : Fmt} {s : Bool} {k : Nat} (h : f.signed s k ≠ 0) : s = decide (f.signed s k < 0) := by
  have hpos : (0 : ℚ) < |f.signed s k| := abs_pos.2 h
  rw [signed_abs] at hpos
  cases s <;> simp [signed, hpos, hpos.le]

/-- `r` of sign `s` is `x` rounded, the exponent not bounded. -/
structure Fmt.Rounds (f : Fmt) (x : ℚ) (s : Bool) (r : Nat) : Prop where
  sign : x ≠ 0 → s = decide (x < 0)
  nearest : f.IsNearestEven (|x| / 2 ^ f.qmin) r

theorem Fmt.Rounds.eq_signed_abs {f : Fmt} {x : ℚ} {s : Bool} {r : Nat} (h : f.Rounds x s r) :
    x = (if s then -1 else 1) * |x| := by
  by_cases hx : x = 0
  · simp [hx]
  · rw [h.sign hx]
    rcases lt_or_gt_of_ne hx with hn | hp
    · simp [hn, abs_of_neg hn]
    · simp [hp.le, abs_of_pos hp]

/-- The distance of a rounding of the same sign is the distance of the magnitudes. -/
theorem Fmt.Rounds.dist_same {f : Fmt} {x : ℚ} {s : Bool} {r : Nat} (h : f.Rounds x s r) (k : Nat) :
    |f.signed s k - x| = |(f.units k : ℚ) - |x| / 2 ^ f.qmin| * 2 ^ f.qmin := by
  have hpos := f.two_pow_qmin_pos
  have hfac : f.signed s k - x = (if s then -1 else 1) * (((f.units k : ℚ) - |x| / 2 ^ f.qmin) * 2 ^ f.qmin) := by
    rw [sub_mul, div_mul_cancel₀ _ hpos.ne', mul_sub, ← h.eq_signed_abs]; rfl
  rw [hfac, abs_mul, abs_mul, abs_of_pos hpos]
  cases s <;> simp

/-- A number of either sign is no nearer to `x` than the one of `x`'s sign. -/
theorem Fmt.Rounds.dist_le {f : Fmt} {x : ℚ} {s : Bool} {r : Nat} (h : f.Rounds x s r) (s' : Bool) (k : Nat) :
    |f.signed s k - x| ≤ |f.signed s' k - x| := by
  have hsame : |f.signed s k - x| = |(|f.signed s' k| - |x|)| := by
    have hpos := f.two_pow_qmin_pos
    rw [h.dist_same, signed_abs, ← abs_of_pos hpos, ← abs_mul, abs_of_pos hpos, sub_mul, div_mul_cancel₀ _ hpos.ne']
  rw [hsame]
  exact abs_abs_sub_abs_le _ _

theorem Fmt.Rounds.closest {f : Fmt} {x : ℚ} {s : Bool} {r : Nat} (h : f.Rounds x s r) (s' : Bool) (k : Nat) :
    |f.signed s r - x| ≤ |f.signed s' k - x| := by
  refine le_trans ?_ (h.dist_le s' k)
  rw [h.dist_same, h.dist_same]
  have := h.nearest.dist_le_dist k
  gcongr

theorem Fmt.Rounds.even_of_tie {f : Fmt} {x : ℚ} {s : Bool} {r : Nat} (h : f.Rounds x s r) {s' : Bool} {k : Nat}
    (hne : f.signed s' k ≠ f.signed s r) (htie : |f.signed s' k - x| = |f.signed s r - x|) : r % 2 = 0 := by
  have hpos := f.two_pow_qmin_pos
  -- The tie is with another magnitude; one with `r` of the other sign is a tie with zero as well.
  obtain ⟨j, hj, hle⟩ : ∃ j, j ≠ r ∧ |f.signed s j - x| ≤ |f.signed s r - x| := by
    by_cases hk : k = r
    · subst hk
      refine ⟨0, ?_, ?_⟩
      · rintro rfl; simp [signed] at hne
      · have hopp : f.signed s' k = - f.signed s k := by
          cases s <;> cases s' <;> simp_all [signed]
        have hx : x = 0 ∨ f.signed s k = 0 := by
          rw [hopp] at htie
          rcases abs_eq_abs.1 htie with e | e
          · right; linarith
          · left; linarith
        rcases hx with hx | hx
        · simp [hx, signed]
        · rw [hopp, hx, neg_zero] at hne
          exact absurd rfl hne
    · exact ⟨k, hk, htie ▸ h.dist_le s' k⟩
  rw [h.dist_same, h.dist_same, mul_le_mul_iff_of_pos_right hpos] at hle
  rcases h.nearest j hj with hlt | heq
  · exact absurd hle hlt.not_ge
  · exact heq.2

/-- Rounding stays finite exactly below the overflow bound. -/
theorem Fmt.Rounds.lt_inf_iff {f : Fmt} (hf : f.Ok) {x : ℚ} {s : Bool} {r : Nat} (h : f.Rounds x s r) :
    r < f.inf ↔ |x| < f.overflow := by
  obtain ⟨j, hinf, hodd, hsum⟩ := hf.exists_maxFinite
  have hpos := f.two_pow_qmin_pos
  rw [hinf, h.nearest.lt_iff_of_odd hodd, ← mul_lt_mul_iff_of_pos_right hpos, hsum, mul_assoc, div_mul_cancel₀ _ hpos.ne']
  constructor <;> intro h <;> linarith

/-- Every number of the format is its own rounding. -/
theorem Fmt.rounds_signed (f : Fmt) (s : Bool) (k : Nat) : f.Rounds (f.signed s k) s k where
  sign := signed_sign
  nearest := fun j hj => by
    have hne : (f.units j : ℚ) ≠ f.units k := by exact_mod_cast f.units_strictMono.injective.ne hj
    rw [signed_abs, mul_div_cancel_right₀ _ f.two_pow_qmin_pos.ne', sub_self, abs_zero]
    exact .inl (abs_pos.2 (sub_ne_zero.2 hne))

/-- `roundMag` rounds the number `X * 2 ^ e` that its operands represent. -/
theorem Fmt.exists_rounds_roundMag {f : Fmt} (hf : f.Ok) {m : Nat} {X x : ℚ} {s : Bool} {e : Int}
    (hX : f.Represents m X) (hx : |x| = X * 2 ^ e) (hs : x ≠ 0 → s = decide (x < 0)) :
    ∃ r, roundMag f m e = min r f.inf ∧ f.Rounds x s r := by
  obtain ⟨r, hr, hn⟩ := exists_nearest_roundMag hf.fb hX e
  refine ⟨r, hr, hs, ?_⟩
  rwa [hx, mul_div_assoc, ← zpow_sub₀ two_ne_zero]

end Sys2Proof.Machine
end

section
/-! PROOFS. The fields of a binary64 pattern, its value, and `pack` as a rounding (spec/00_scope.md R13, R15). -/

namespace Sys2Proof.Machine

/-! ### binary64 patterns -/

theorem Fmt.b64_qmin : Fmt.b64.qmin = -1074 := by decide
theorem Fmt.b64_inf : Fmt.b64.inf = 2047 * 2 ^ 52 := by decide

theorem Fmt.b64_overflow : Fmt.b64.overflow = (2 ^ 54 - 1) * 2 ^ 970 := by
  have h : ((2 ^ Fmt.b64.eb : Nat) - 4 + Fmt.b64.qmin : Int) = (970 : Nat) := by decide
  rw [overflow, h, zpow_natCast]; rfl

/-- A pattern without its sign (00_scope.md R13). -/
def F64.mag (v : F64) : Nat := v.toNat % 2 ^ 63

theorem F64.sign_eq (v : F64) : F64.sign v = decide (2 ^ 63 ≤ v.toNat) := BitVec.msb_eq_decide v

theorem F64.toNat_eq (v : F64) : v.toNat = (if F64.sign v then 2 ^ 63 else 0) + F64.mag v := by
  have := v.isLt
  rw [sign_eq, mag]
  simp only [decide_eq_true_eq]
  split <;> omega

theorem F64.eq_of_sign_mag {v w : F64} (hs : F64.sign v = F64.sign w) (hm : F64.mag v = F64.mag w) : v = w :=
  BitVec.eq_of_toNat_eq (by rw [toNat_eq v, toNat_eq w, hs, hm])

theorem F64.mag_lt (v : F64) : F64.mag v < 2 ^ 63 := Nat.mod_lt _ (by decide)

theorem F64.expo_eq (v : F64) : F64.expo v = F64.mag v / 2 ^ 52 := by unfold expo mag; omega

theorem F64.frac_eq (v : F64) : F64.frac v = F64.mag v % 2 ^ 52 := by unfold frac mag; omega

theorem F64.isFinite_iff (v : F64) : F64.isFinite v = true ↔ F64.mag v < Fmt.b64.inf := by
  have := mag_lt v
  rw [isFinite, expo_eq, Fmt.b64_inf, bne_iff_ne]; omega

theorem F64.isInf_iff (v : F64) : F64.isInf v = true ↔ F64.mag v = Fmt.b64.inf := by
  have := mag_lt v
  rw [isInf, expo_eq, frac_eq, Fmt.b64_inf, Bool.and_eq_true, beq_iff_eq, beq_iff_eq]; omega

theorem F64.isNaN_iff (v : F64) : F64.isNaN v = true ↔ Fmt.b64.inf < F64.mag v := by
  have := mag_lt v
  rw [isNaN, expo_eq, frac_eq, Fmt.b64_inf, Bool.and_eq_true, beq_iff_eq, bne_iff_ne]; omega

theorem F64.isZero_iff (v : F64) : F64.isZero v = true ↔ F64.mag v = 0 := by
  rw [isZero, expo_eq, frac_eq, Bool.and_eq_true, beq_iff_eq, beq_iff_eq]; omega

theorem F64.isNaN_eq_false_of_isFinite {v : F64} (h : F64.isFinite v = true) : F64.isNaN v = false := by
  rw [isFinite_iff] at h
  rw [← Bool.not_eq_true, isNaN_iff]; omega

theorem F64.isInf_eq_false_of_isFinite {v : F64} (h : F64.isFinite v = true) : F64.isInf v = false := by
  rw [isFinite_iff] at h
  rw [← Bool.not_eq_true, isInf_iff]; omega

theorem F64.isNaN_eq_false_of_isInf {v : F64} (h : F64.isInf v = true) : F64.isNaN v = false := by
  rw [isInf_iff] at h
  rw [← Bool.not_eq_true, isNaN_iff]; omega

theorem F64.isZero_eq_false_of_isInf {v : F64} (h : F64.isInf v = true) : F64.isZero v = false := by
  rw [isInf_iff, Fmt.b64_inf] at h
  rw [← Bool.not_eq_true, isZero_iff]; omega

/-- The significand's last place, counted from the subnormals'. -/
theorem F64.qexp_eq (v : F64) : F64.qexp v = ((F64.expo v - 1 : Nat) : Int) + Fmt.b64.qmin := by
  rw [qexp, Fmt.b64_qmin]; omega

theorem F64.units_mag (v : F64) : Fmt.b64.units (F64.mag v) = F64.mant v * 2 ^ (F64.expo v - 1) := by
  rw [Fmt.units, mant, expo_eq, frac_eq]; rfl

theorem F64.mant_mod_two (v : F64) : F64.mant v % 2 = F64.mag v % 2 := by
  rw [mant, expo_eq, frac_eq]
  split <;> omega

theorem F64.mant_mul (v : F64) : (F64.mant v : ℚ) * 2 ^ F64.qexp v = Fmt.b64.units (F64.mag v) * 2 ^ Fmt.b64.qmin := by
  rw [units_mag, qexp_eq, zpow_add₀ two_ne_zero, zpow_natCast]
  push_cast
  ring

/-- A finite value is the number of its sign and magnitude. -/
theorem F64.value_eq (v : F64) : F64.value v = Fmt.b64.signed (F64.sign v) (F64.mag v) := by
  rw [value, Fmt.signed, ← mant_mul, smant]
  cases F64.sign v <;> simp

theorem F64.abs_value (v : F64) : |F64.value v| = F64.mant v * 2 ^ F64.qexp v := by
  rw [value_eq, Fmt.signed_abs, mant_mul]

theorem F64.isZero_iff_mant (v : F64) : F64.isZero v = true ↔ F64.mant v = 0 := by
  rw [isZero_iff, mant, expo_eq, frac_eq]
  split <;> omega

/-- The sign bit is the sign of a nonzero value. -/
theorem F64.sign_eq_decide (v : F64) (h : F64.value v ≠ 0) : F64.sign v = decide (F64.value v < 0) := by
  rw [value_eq] at h ⊢
  exact Fmt.signed_sign h

/-! ### Patterns that the model builds -/

section
variable {s : Bool} {k : Nat}

theorem F64.toNat_ofMag (hk : k ≤ Fmt.b64.inf) : (F64.ofMag s k).toNat = (if s then 2 ^ 63 else 0) + k := by
  rw [Fmt.b64_inf] at hk
  rw [ofMag, BitVec.toNat_ofNat]
  split <;> omega

theorem F64.sign_ofMag (hk : k ≤ Fmt.b64.inf) : F64.sign (F64.ofMag s k) = s := by
  rw [sign_eq, toNat_ofMag hk]
  rw [Fmt.b64_inf] at hk
  cases s <;> simp; omega

theorem F64.mag_ofMag (hk : k ≤ Fmt.b64.inf) : F64.mag (F64.ofMag s k) = k := by
  rw [mag, toNat_ofMag hk]
  rw [Fmt.b64_inf] at hk
  split <;> omega

end

theorem F64.ofMag_sign_mag {v : F64} (h : F64.mag v ≤ Fmt.b64.inf) : F64.ofMag (F64.sign v) (F64.mag v) = v :=
  eq_of_sign_mag (sign_ofMag h) (mag_ofMag h)

theorem Fmt.roundMag_le_inf (f : Fmt) (m : Nat) (e : Int) : roundMag f m e ≤ f.inf := by
  unfold roundMag
  dsimp only
  split
  · exact Nat.zero_le _
  · exact min_le_right _ _

@[simp] theorem F64.sign_pack (s : Bool) (m : Nat) (e : Int) : F64.sign (F64.pack s m e) = s :=
  sign_ofMag (Fmt.roundMag_le_inf _ _ _)

/-- What was rounded and capped at infinity is a rounding as 00_scope.md R15 has it. -/
theorem F64.isRounding_of_rounds {x : ℚ} {s : Bool} {r : Nat} (h : Fmt.b64.Rounds x s r) :
    F64.IsRounding x (F64.ofMag s (min r Fmt.b64.inf)) := by
  have hcap : min r Fmt.b64.inf ≤ Fmt.b64.inf := min_le_right _ _
  refine ⟨fun hx => by rw [sign_ofMag hcap, h.sign hx], ?_⟩
  rw [← Fmt.b64_overflow]
  have hfin := h.lt_inf_iff Fmt.b64_ok
  split
  · next hlt =>
    have hr := hfin.2 hlt
    rw [min_eq_left hr.le]
    have hval : F64.value (F64.ofMag s r) = Fmt.b64.signed s r := by
      rw [value_eq, sign_ofMag hr.le, mag_ofMag hr.le]
    refine ⟨by rw [isFinite_iff, mag_ofMag hr.le]; exact hr, fun u _ => ?_, fun u _ hne htie => ?_⟩
    · rw [hval, value_eq u]
      exact h.closest _ _
    · rw [hval, value_eq u] at hne htie
      rw [mant_mod_two, mag_ofMag hr.le]
      exact h.even_of_tie hne htie
  · next hge =>
    have hx : x ≠ 0 := by
      rintro rfl
      rw [abs_zero, Fmt.b64_overflow] at hge
      exact hge (by norm_num)
    rw [min_eq_right (not_lt.1 (mt hfin.1 hge)), ← h.sign hx]
    rfl

/-- `pack` rounds the number `X * 2 ^ e` that its operands represent. -/
theorem F64.isRounding_pack {m : Nat} {X x : ℚ} {s : Bool} {e : Int} (hX : Fmt.b64.Represents m X)
    (hx : |x| = X * 2 ^ e) (hs : x ≠ 0 → s = decide (x < 0)) : F64.IsRounding x (F64.pack s m e) := by
  obtain ⟨r, hr, h⟩ := Fmt.exists_rounds_roundMag Fmt.b64_ok hX hx hs
  rw [pack, hr]
  exact isRounding_of_rounds h

end Sys2Proof.Machine
end

section
/-! PROOFS. Sums, products and quotients (spec/00_scope.md R15, 40_common.md R151). -/

namespace Sys2Proof.Machine

/-! ### Sums -/

/-- The sum of two significands in units of the smaller last place (`n` of `F64.add?`). -/
def F64.sumMant (a b : F64) : Int :=
  F64.smant a * 2 ^ (F64.qexp a - min (F64.qexp a) (F64.qexp b)).toNat +
    F64.smant b * 2 ^ (F64.qexp b - min (F64.qexp a) (F64.qexp b)).toNat

theorem F64.smant_aligned (v : F64) {e : Int} (he : e ≤ F64.qexp v) :
    ((F64.smant v * 2 ^ (F64.qexp v - e).toNat : Int) : ℚ) * 2 ^ e = F64.value v := by
  obtain ⟨i, hi⟩ : ∃ i : Nat, F64.qexp v - e = i := ⟨(F64.qexp v - e).toNat, by omega⟩
  have hq : F64.qexp v = i + e := by omega
  rw [value, hi, hq, zpow_add₀ two_ne_zero, zpow_natCast]
  push_cast [Int.toNat_natCast]
  ring

theorem F64.sumMant_mul (a b : F64) :
    (F64.sumMant a b : ℚ) * 2 ^ min (F64.qexp a) (F64.qexp b) = F64.value a + F64.value b := by
  rw [sumMant, Int.cast_add, add_mul, smant_aligned a (min_le_left _ _), smant_aligned b (min_le_right _ _)]

theorem F64.sumMant_eq_zero_iff (a b : F64) : F64.sumMant a b = 0 ↔ F64.value a + F64.value b = 0 := by
  have hpos : (2 : ℚ) ^ min (F64.qexp a) (F64.qexp b) ≠ 0 := by positivity
  rw [← sumMant_mul, mul_eq_zero, or_iff_left hpos, Int.cast_eq_zero]

theorem F64.add?_finite {a b : F64} (ha : F64.isFinite a = true) (hb : F64.isFinite b = true) :
    F64.add? a b = some (if F64.sumMant a b = 0 then F64.zeroOf (F64.sign a && F64.sign b)
      else F64.pack (decide (F64.sumMant a b < 0)) (F64.sumMant a b).natAbs (min (F64.qexp a) (F64.qexp b))) := by
  simp only [add?, isNaN_eq_false_of_isFinite, isInf_eq_false_of_isFinite, ha, hb, Bool.or_self, Bool.false_eq_true,
    if_false, apply_ite some]
  rfl

theorem F64.add?_of_isNaN {a b : F64} (h : F64.isNaN a = true ∨ F64.isNaN b = true) : F64.add? a b = none := by
  rw [add?, if_pos (by simpa using h)]

theorem F64.add?_inf_left {a b : F64} (ha : F64.isInf a = true) (hb : F64.isNaN b = false) :
    F64.add? a b = if F64.isInf b && F64.sign a != F64.sign b then none else some a := by
  simp [add?, isNaN_eq_false_of_isInf, ha, hb]

theorem F64.add?_inf_right {a b : F64} (ha : F64.isFinite a = true) (hb : F64.isInf b = true) :
    F64.add? a b = some b := by
  simp [add?, isNaN_eq_false_of_isInf, isNaN_eq_false_of_isFinite, isInf_eq_false_of_isFinite, ha, hb]

theorem F64.isRounding_zeroOf (s : Bool) : F64.IsRounding 0 (F64.zeroOf s) := by
  have h : F64.IsRounding 0 (F64.pack s 0 0) := isRounding_pack (X := 0) (.inl (by simp)) (by simp) (by simp)
  simpa [pack, roundMag, zeroOf] using h

/-- Equal infinities are those of one sign. -/
theorem F64.inf_eq_iff {a b : F64} (ha : F64.isInf a = true) (hb : F64.isInf b = true) :
    a = b ↔ F64.sign a = F64.sign b :=
  ⟨congrArg _, fun h => eq_of_sign_mag h (((isInf_iff a).1 ha).trans ((isInf_iff b).1 hb).symm)⟩

theorem F64.add?_rounds {a b : F64} (ha : F64.isFinite a = true) (hb : F64.isFinite b = true) :
    ∃ v, F64.add? a b = some v ∧ F64.IsRounding (F64.value a + F64.value b) v ∧
      (F64.value a + F64.value b = 0 → v = F64.zeroOf (F64.sign a && F64.sign b)) := by
  refine ⟨_, add?_finite ha hb, ?_⟩
  have hiff := sumMant_eq_zero_iff a b
  split
  · next h0 =>
    rw [hiff.1 h0]
    exact ⟨isRounding_zeroOf _, fun _ => rfl⟩
  · next h0 =>
    refine ⟨?_, fun h => absurd (hiff.2 h) h0⟩
    have hpos : (0 : ℚ) < 2 ^ min (F64.qexp a) (F64.qexp b) := by positivity
    rw [← sumMant_mul]
    refine isRounding_pack (.inl rfl) ?_ fun _ => ?_
    · rw [abs_mul, abs_of_pos hpos, Nat.cast_natAbs, Int.cast_abs]
    · congr 1
      rw [← not_le, ← not_le, mul_nonneg_iff_of_pos_right hpos, Int.cast_nonneg_iff]

end Sys2Proof.Machine

open Sys2Proof.Machine

/-- Settles O21: a finite sum is one rounding of the aligned significands' sum, the other cases by the operands' kinds. -/
theorem sumsRoundToNearest : Obligations.SumsRoundToNearest := fun a b =>
  ⟨F64.add?_rounds, F64.add?_of_isNaN,
    fun ha hb => by simp [F64.add?_inf_left ha (F64.isNaN_eq_false_of_isFinite hb), F64.isInf_eq_false_of_isFinite hb],
    F64.add?_inf_right,
    fun ha hb => by simp [F64.add?_inf_left ha (F64.isNaN_eq_false_of_isInf hb), hb, F64.inf_eq_iff ha hb, ite_not],
    rfl⟩

namespace Sys2Proof.Machine

/-! ### Products and quotients -/

/-- The sign of a product of nonzero numbers. -/
theorem decide_mul_neg {x y : ℚ} (hx : x ≠ 0) (hy : y ≠ 0) : decide (x * y < 0) = (decide (x < 0) != decide (y < 0)) := by
  rcases lt_or_gt_of_ne hx with hx | hx <;> rcases lt_or_gt_of_ne hy with hy | hy <;>
    simp [mul_neg_iff, hx, hy, hx.not_gt, hy.not_gt]

theorem F64.sign_mul {a b : F64} (h : F64.value a * F64.value b ≠ 0) :
    (F64.sign a != F64.sign b) = decide (F64.value a * F64.value b < 0) := by
  obtain ⟨ha, hb⟩ := mul_ne_zero_iff.1 h
  rw [decide_mul_neg ha hb, sign_eq_decide a ha, sign_eq_decide b hb]

theorem F64.sign_div {a b : F64} (h : F64.value a / F64.value b ≠ 0) :
    (F64.sign a != F64.sign b) = decide (F64.value a / F64.value b < 0) := by
  obtain ⟨ha, hb⟩ := div_ne_zero_iff.1 h
  rw [div_eq_mul_inv, decide_mul_neg ha (inv_ne_zero hb), sign_eq_decide a ha, sign_eq_decide b hb]
  simp only [inv_lt_zero]

theorem F64.mul?_finite {a b : F64} (ha : F64.isFinite a = true) (hb : F64.isFinite b = true) :
    F64.mul? a b =
      some (F64.pack (F64.sign a != F64.sign b) (F64.mant a * F64.mant b) (F64.qexp a + F64.qexp b)) := by
  simp [mul?, isNaN_eq_false_of_isFinite, isInf_eq_false_of_isFinite, ha, hb]

theorem F64.mul?_of_isNaN {a b : F64} (h : F64.isNaN a = true ∨ F64.isNaN b = true) : F64.mul? a b = none := by
  rw [mul?, if_pos (by simpa using h)]

theorem F64.mul?_inf_left {a b : F64} (ha : F64.isInf a = true) (hb : F64.isNaN b = false) :
    F64.mul? a b = if F64.isZero b then none else some (F64.inf (F64.sign a != F64.sign b)) := by
  simp [mul?, isNaN_eq_false_of_isInf, isZero_eq_false_of_isInf, ha, hb]

theorem F64.mul?_comm (a b : F64) : F64.mul? a b = F64.mul? b a := by
  simp only [mul?, bne_comm (a := F64.sign a), Bool.or_comm (F64.isNaN a), Bool.or_comm (F64.isInf a),
    Bool.or_comm (F64.isZero a), mul_comm (F64.mant a), add_comm (F64.qexp a)]

theorem F64.mul?_rounds {a b : F64} (ha : F64.isFinite a = true) (hb : F64.isFinite b = true) :
    ∃ v, F64.mul? a b = some v ∧ F64.IsRounding (F64.value a * F64.value b) v ∧
      F64.sign v = (F64.sign a != F64.sign b) := by
  refine ⟨_, mul?_finite ha hb, isRounding_pack (.inl rfl) ?_ sign_mul, sign_pack _ _ _⟩
  rw [abs_mul, abs_value, abs_value, zpow_add₀ two_ne_zero]
  push_cast
  ring

/-- The numerator of `stickyQuot` lies to the even numbers as twice the exact quotient does. -/
theorem sameSide_sticky (n : Nat) {b : Nat} (hb : b ≠ 0) :
    SameSide 2 (2 * n / b) (2 * (n / b) + if n % b = 0 then 0 else 1) := by
  intro j
  have hbpos : 0 < b := Nat.pos_of_ne_zero hb
  have hbq : (0 : ℚ) < b := by exact_mod_cast hbpos
  have hlo : ((2 * j : Nat) : ℚ) ≤ 2 * n / b ↔ j * b ≤ n := by
    rw [le_div_iff₀ hbq, ← Nat.cast_le (α := ℚ)]
    push_cast
    constructor <;> intro h <;> linarith
  have hhi : 2 * n / b ≤ ((2 * j : Nat) : ℚ) ↔ n ≤ j * b := by
    rw [div_le_iff₀ hbq, ← Nat.cast_le (α := ℚ)]
    push_cast
    constructor <;> intro h <;> linarith
  rw [hlo, hhi, ← Nat.le_div_iff_mul_le hbpos]
  have hdiv := Nat.div_add_mod n b
  constructor
  · split <;> omega
  · split
    · next h0 =>
      have hn : n / b * b = n := Nat.div_mul_cancel (Nat.dvd_of_mod_eq_zero h0)
      conv_lhs => rw [← hn]
      rw [Nat.mul_le_mul_right_iff hbpos]
      omega
    · next h0 =>
      have hne : n ≠ j * b := by
        rintro rfl
        exact h0 (Nat.mul_mod_left j b)
      have : n ≤ j * b ↔ n / b < j := by
        rw [Nat.div_lt_iff_lt_mul hbpos]; omega
      omega

/-- The numerator of `stickyQuot` has 120 bits or more. -/
theorem le_log2_stickyQuot {a b : Nat} (ha : a ≠ 0) (hpos : 0 < b) : 120 ≤ Nat.log2 (stickyQuot a b).1 := by
  have hb : b < 2 ^ (Nat.log2 b + 1) := Nat.lt_log2_self
  have hquot : 2 ^ 119 ≤ a <<< (120 + Nat.log2 b) / b := by
    rw [Nat.le_div_iff_mul_le hpos, Nat.shiftLeft_eq]
    calc 2 ^ 119 * b ≤ 2 ^ 119 * 2 ^ (Nat.log2 b + 1) := Nat.mul_le_mul_left _ hb.le
      _ = 1 * 2 ^ (120 + Nat.log2 b) := by rw [← pow_add, one_mul]; congr 1; omega
      _ ≤ a * 2 ^ (120 + Nat.log2 b) := Nat.mul_le_mul_right _ (Nat.pos_of_ne_zero ha)
  have hnum : 2 ^ 120 ≤ (stickyQuot a b).1 := by
    rw [stickyQuot]; omega
  exact (Nat.le_log2 (by omega)).2 hnum

/-- The quotient's numerator and shift, for every format whose significand has two bits less than the numerator. -/
theorem represents_stickyQuot {f : Fmt} (hf : f.fb ≤ 118) (a : Nat) {b : Nat} (hb : b ≠ 0) :
    f.Represents (stickyQuot a b).1 (a / b * 2 ^ (-(stickyQuot a b).2)) := by
  have hX : (a : ℚ) / b * 2 ^ (-(stickyQuot a b).2) = 2 * (a <<< (120 + Nat.log2 b) : Nat) / b := by
    have hexp : -(stickyQuot a b).2 = ((120 + Nat.log2 b + 1 : Nat) : Int) := by simp [stickyQuot]; ring
    rw [hexp, zpow_natCast, Nat.shiftLeft_eq, pow_succ]
    push_cast
    ring
  by_cases ha : a = 0
  · subst ha
    left
    simp [stickyQuot]
  · rw [hX]
    exact .inr ⟨sameSide_sticky _ hb, le_trans (by omega) (le_log2_stickyQuot ha (Nat.pos_of_ne_zero hb))⟩

theorem F64.div?_finite {a b : F64} (ha : F64.isFinite a = true) (hb : F64.isFinite b = true)
    (hb0 : F64.isZero b = false) : F64.div? a b =
      some (F64.pack (F64.sign a != F64.sign b) (stickyQuot (F64.mant a) (F64.mant b)).1
        (F64.qexp a - F64.qexp b + (stickyQuot (F64.mant a) (F64.mant b)).2)) := by
  simp [div?, isNaN_eq_false_of_isFinite, isInf_eq_false_of_isFinite, ha, hb, hb0]

theorem F64.div?_of_isNaN {a b : F64} (h : F64.isNaN a = true ∨ F64.isNaN b = true) : F64.div? a b = none := by
  rw [div?, if_pos (by simpa using h)]

theorem F64.div?_zero {a b : F64} (ha : F64.isFinite a = true) (hb : F64.isZero b = true) :
    F64.div? a b = if F64.isZero a then none else some (F64.inf (F64.sign a != F64.sign b)) := by
  have hfin : F64.isFinite b = true := by
    rw [isZero_iff] at hb
    rw [isFinite_iff, hb]; decide
  simp [div?, isNaN_eq_false_of_isFinite, isInf_eq_false_of_isFinite, ha, hb, hfin]

theorem F64.div?_inf_left {a b : F64} (ha : F64.isInf a = true) (hb : F64.isNaN b = false) :
    F64.div? a b = if F64.isInf b then none else some (F64.inf (F64.sign a != F64.sign b)) := by
  simp [div?, isNaN_eq_false_of_isInf, ha, hb]

theorem F64.div?_inf_right {a b : F64} (ha : F64.isFinite a = true) (hb : F64.isInf b = true) :
    F64.div? a b = some (F64.zeroOf (F64.sign a != F64.sign b)) := by
  simp [div?, isNaN_eq_false_of_isInf, isNaN_eq_false_of_isFinite, isInf_eq_false_of_isFinite, ha, hb]

theorem F64.div?_rounds {a b : F64} (ha : F64.isFinite a = true) (hb : F64.isFinite b = true)
    (hb0 : F64.isZero b = false) :
    ∃ v, F64.div? a b = some v ∧ F64.IsRounding (F64.value a / F64.value b) v ∧
      F64.sign v = (F64.sign a != F64.sign b) := by
  have hmant : F64.mant b ≠ 0 := mt (isZero_iff_mant b).2 (Bool.not_eq_true _ ▸ hb0)
  refine ⟨_, div?_finite ha hb hb0,
    isRounding_pack (represents_stickyQuot (by decide) _ hmant) ?_ sign_div, sign_pack _ _ _⟩
  rw [abs_div, abs_value, abs_value, mul_assoc, ← zpow_add₀ two_ne_zero, add_comm (_ - _), neg_add_cancel_left,
    zpow_sub₀ two_ne_zero]
  ring

end Sys2Proof.Machine

open Sys2Proof.Machine

/-- Settles O22: a finite product is one rounding of the significands' product. -/
theorem productsRoundToNearest : Obligations.ProductsRoundToNearest := fun a b =>
  ⟨F64.mul?_rounds, F64.mul?_of_isNaN, fun ha hb => ⟨F64.mul?_comm a b, F64.mul?_inf_left ha hb⟩⟩

/-- Settles O23: a finite quotient is one rounding, for which the sticky bit of `stickyQuot` is enough. -/
theorem quotientsRoundToNearest : Obligations.QuotientsRoundToNearest := fun a b =>
  ⟨F64.div?_rounds, F64.div?_of_isNaN, F64.div?_zero,
    fun ha hb => by simp [F64.div?_inf_left ha (F64.isNaN_eq_false_of_isInf hb), hb],
    fun ha hb => by simp [F64.div?_inf_left ha (F64.isNaN_eq_false_of_isFinite hb), F64.isInf_eq_false_of_isFinite hb],
    F64.div?_inf_right⟩
end

section
/-! PROOFS. binary32 and the conversions, truncation and the comparisons (spec/00_scope.md R16, R17). -/

namespace Sys2Proof.Machine

/-! ### binary32 patterns -/

theorem Fmt.b32_qmin : Fmt.b32.qmin = -149 := by decide
theorem Fmt.b32_inf : Fmt.b32.inf = 255 * 2 ^ 23 := by decide

theorem Fmt.b32_overflow : Fmt.b32.overflow = (2 ^ 25 - 1) * 2 ^ 103 := by
  have h : ((2 ^ Fmt.b32.eb : Nat) - 4 + Fmt.b32.qmin : Int) = (103 : Nat) := by decide
  rw [overflow, h, zpow_natCast]; rfl

/-- A pattern without its sign (00_scope.md R13). -/
def F32.mag (v : F32) : Nat := v.toNat % 2 ^ 31

/-- The pattern of sign `s` and magnitude pattern `k`, as `F64.toF32?` builds it. -/
def F32.ofMag (s : Bool) (k : Nat) : F32 := BitVec.ofNat 32 ((if s then 2 ^ 31 else 0) + k)

theorem F32.msb_eq (v : F32) : v.msb = decide (2 ^ 31 ≤ v.toNat) := BitVec.msb_eq_decide v

theorem F32.toNat_eq (v : F32) : v.toNat = (if v.msb then 2 ^ 31 else 0) + F32.mag v := by
  have := v.isLt
  rw [msb_eq, mag]
  simp only [decide_eq_true_eq]
  split <;> omega

theorem F32.eq_of_msb_mag {v w : F32} (hs : v.msb = w.msb) (hm : F32.mag v = F32.mag w) : v = w :=
  BitVec.eq_of_toNat_eq (by rw [toNat_eq v, toNat_eq w, hs, hm])

theorem F32.mag_lt (v : F32) : F32.mag v < 2 ^ 31 := Nat.mod_lt _ (by decide)

theorem F32.expo_eq (v : F32) : F32.expo v = F32.mag v / 2 ^ 23 := by unfold expo mag; omega

theorem F32.frac_eq (v : F32) : F32.frac v = F32.mag v % 2 ^ 23 := by unfold frac mag; omega

theorem F32.isFinite_iff (v : F32) : F32.isFinite v = true ↔ F32.mag v < Fmt.b32.inf := by
  have := mag_lt v
  rw [isFinite, expo_eq, Fmt.b32_inf, bne_iff_ne]; omega

theorem F32.isInf_iff (v : F32) : F32.isInf v = true ↔ F32.mag v = Fmt.b32.inf := by
  have := mag_lt v
  rw [isInf, expo_eq, frac_eq, Fmt.b32_inf, Bool.and_eq_true, beq_iff_eq, beq_iff_eq]; omega

theorem F32.isNaN_iff (v : F32) : F32.isNaN v = true ↔ Fmt.b32.inf < F32.mag v := by
  have := mag_lt v
  rw [isNaN, expo_eq, frac_eq, Fmt.b32_inf, Bool.and_eq_true, beq_iff_eq, bne_iff_ne]; omega

/-- The significand of a finite value (`m` of `F32.smant`). -/
def F32.mant (v : F32) : Nat := if F32.expo v = 0 then F32.frac v else 2 ^ 23 + F32.frac v

theorem F32.smant_eq (v : F32) : F32.smant v = if v.msb then -(F32.mant v : Int) else F32.mant v := rfl

theorem F32.mant_lt (v : F32) : F32.mant v < 2 ^ 24 := by
  rw [mant, frac_eq]
  split <;> omega

theorem F32.smant_mod_two (v : F32) : F32.smant v % 2 = 0 ↔ F32.mag v % 2 = 0 := by
  have hm : F32.mant v % 2 = F32.mag v % 2 := by
    rw [mant, expo_eq, frac_eq]
    split <;> omega
  rw [smant_eq]
  split <;> omega

theorem F32.units_mag (v : F32) : Fmt.b32.units (F32.mag v) = F32.mant v * 2 ^ (F32.expo v - 1) := by
  rw [Fmt.units, mant, expo_eq, frac_eq]; rfl

theorem F32.mant_mul (v : F32) :
    (F32.mant v : ℚ) * 2 ^ ((max (F32.expo v) 1 : Nat) - 150 : Int) =
      Fmt.b32.units (F32.mag v) * 2 ^ Fmt.b32.qmin := by
  have hq : ((max (F32.expo v) 1 : Nat) - 150 : Int) = ((F32.expo v - 1 : Nat) : Int) + Fmt.b32.qmin := by
    rw [Fmt.b32_qmin]; omega
  rw [units_mag, hq, zpow_add₀ two_ne_zero, zpow_natCast]
  push_cast
  ring

/-- A finite value is the number of its sign and magnitude. -/
theorem F32.value_eq (v : F32) : F32.value v = Fmt.b32.signed v.msb (F32.mag v) := by
  rw [value, Fmt.signed, ← mant_mul, smant_eq]
  cases v.msb <;> simp

theorem F32.eq_of_value {v w : F32} (hs : v.msb = w.msb) (h : F32.value v = F32.value w) : v = w := by
  refine eq_of_msb_mag hs (Fmt.b32.units_strictMono.injective ?_)
  have hpos := Fmt.b32.two_pow_qmin_pos.ne'
  have habs := congrArg abs h
  rw [value_eq, value_eq, Fmt.signed_abs, Fmt.signed_abs] at habs
  exact_mod_cast mul_right_cancel₀ hpos habs

section
variable {s : Bool} {k : Nat}

theorem F32.toNat_ofMag (hk : k ≤ Fmt.b32.inf) : (F32.ofMag s k).toNat = (if s then 2 ^ 31 else 0) + k := by
  rw [Fmt.b32_inf] at hk
  rw [ofMag, BitVec.toNat_ofNat]
  split <;> omega

theorem F32.msb_ofMag (hk : k ≤ Fmt.b32.inf) : (F32.ofMag s k).msb = s := by
  rw [msb_eq, toNat_ofMag hk]
  rw [Fmt.b32_inf] at hk
  cases s <;> simp; omega

theorem F32.mag_ofMag (hk : k ≤ Fmt.b32.inf) : F32.mag (F32.ofMag s k) = k := by
  rw [mag, toNat_ofMag hk]
  rw [Fmt.b32_inf] at hk
  split <;> omega

end

theorem F32.ofMag_msb_mag {v : F32} (h : F32.mag v ≤ Fmt.b32.inf) : F32.ofMag v.msb (F32.mag v) = v :=
  eq_of_msb_mag (msb_ofMag h) (mag_ofMag h)

/-- What was rounded and capped at infinity is a rounding as 00_scope.md R17 has it. -/
theorem F32.isRounding_of_rounds {x : ℚ} {s : Bool} {r : Nat} (h : Fmt.b32.Rounds x s r) :
    F32.IsRounding x (F32.ofMag s (min r Fmt.b32.inf)) := by
  have hcap : min r Fmt.b32.inf ≤ Fmt.b32.inf := min_le_right _ _
  refine ⟨fun hx => by rw [msb_ofMag hcap, h.sign hx], ?_⟩
  rw [← Fmt.b32_overflow]
  have hfin := h.lt_inf_iff Fmt.b32_ok
  split
  · next hlt =>
    have hr := hfin.2 hlt
    rw [min_eq_left hr.le]
    have hval : F32.value (F32.ofMag s r) = Fmt.b32.signed s r := by
      rw [value_eq, msb_ofMag hr.le, mag_ofMag hr.le]
    refine ⟨by rw [isFinite_iff, mag_ofMag hr.le]; exact hr, fun u _ => ?_, fun u _ hne htie => ?_⟩
    · rw [hval, value_eq u]
      exact h.closest _ _
    · rw [hval, value_eq u] at hne htie
      rw [smant_mod_two, mag_ofMag hr.le]
      exact h.even_of_tie hne htie
  · next hge =>
    rw [isInf_iff, mag_ofMag hcap]
    exact min_eq_right (not_lt.1 (mt hfin.1 hge))

/-! ### Narrowing -/

theorem F64.toF32?_of_isFinite {v : F64} (h : F64.isFinite v = true) :
    F64.toF32? v = some (F32.ofMag (F64.sign v) (roundMag Fmt.b32 (F64.mant v) (F64.qexp v))) := by
  simp [toF32?, isNaN_eq_false_of_isFinite, isInf_eq_false_of_isFinite, h, F32.ofMag]

theorem F64.toF32?_of_isInf {v : F64} (h : F64.isInf v = true) :
    F64.toF32? v = some (F32.ofMag (F64.sign v) Fmt.b32.inf) := by
  simp [toF32?, isNaN_eq_false_of_isInf, h, F32.ofMag]

theorem F64.toF32?_of_isNaN {v : F64} (h : F64.isNaN v = true) : F64.toF32? v = none := by
  simp [toF32?, h]

theorem F64.toF32?_rounds {v : F64} (h : F64.isFinite v = true) :
    ∃ w, F64.toF32? v = some w ∧ F32.IsRounding (F64.value v) w ∧ w.msb = F64.sign v := by
  refine ⟨_, toF32?_of_isFinite h, ?_, F32.msb_ofMag (Fmt.roundMag_le_inf _ _ _)⟩
  obtain ⟨r, hr, hrounds⟩ :=
    Fmt.exists_rounds_roundMag Fmt.b32_ok (m := F64.mant v) (.inl rfl) (F64.abs_value v) (F64.sign_eq_decide v)
  rw [hr]
  exact F32.isRounding_of_rounds hrounds

/-! ### Widening -/

theorem F32.toF64?_of_isNaN {v : F32} (h : F32.isNaN v = true) : F32.toF64? v = none := by
  simp [toF64?, h]

theorem F32.toF64?_of_isInf {v : F32} (h : F32.isInf v = true) : F32.toF64? v = some (F64.inf v.msb) := by
  have hnan : ¬ F32.isNaN v = true := by
    rw [isInf_iff] at h
    rw [isNaN_iff]; omega
  simp [toF64?, h, hnan]

theorem F32.toF64?_of_isFinite {v : F32} (h : F32.isFinite v = true) :
    F32.toF64? v = some (F64.pack v.msb (F32.mant v) ((max (F32.expo v) 1 : Nat) - 150)) := by
  rw [isFinite_iff] at h
  have hnan : ¬ F32.isNaN v = true := by rw [isNaN_iff]; omega
  have hinf : ¬ F32.isInf v = true := by rw [isInf_iff]; omega
  simp only [toF64?, hnan, hinf]
  rfl

/-- A finite binary32 magnitude is below the bound at which it would round to infinity. -/
theorem F32.abs_value_lt {v : F32} (h : F32.isFinite v = true) : |F32.value v| < Fmt.b32.overflow := by
  rw [value_eq]
  exact ((Fmt.b32.rounds_signed _ _).lt_inf_iff Fmt.b32_ok).1 ((isFinite_iff v).1 h)

theorem Fmt.b32_overflow_le_b64 : Fmt.b32.overflow ≤ Fmt.b64.overflow := by
  rw [b32_overflow, b64_overflow]
  have hplace : (2 : ℚ) ^ 103 ≤ 2 ^ 970 := pow_le_pow_right₀ one_le_two (by decide)
  exact mul_le_mul (by norm_num) hplace (pow_nonneg zero_le_two _) (by norm_num)

/-- `pack` is exact for a significand of 53 bits on a last place the format has, below the overflow bound. -/
theorem F64.value_pack {s : Bool} {m : Nat} {e : Int} (hm : m < 2 ^ 53) (he : Fmt.b64.qmin ≤ e)
    (hlt : (m : ℚ) * 2 ^ e < Fmt.b64.overflow) :
    F64.isFinite (F64.pack s m e) = true ∧ F64.value (F64.pack s m e) = (if s then -1 else 1) * (m * 2 ^ e) := by
  obtain ⟨t, ht⟩ : ∃ t : Nat, e = t + Fmt.b64.qmin := ⟨(e - Fmt.b64.qmin).toNat, by omega⟩
  obtain ⟨k, hk⟩ := Fmt.b64.exists_units_eq t m hm
  have hmag : (m : ℚ) * 2 ^ e = Fmt.b64.units k * 2 ^ Fmt.b64.qmin := by
    rw [ht, hk, zpow_add₀ two_ne_zero, zpow_natCast]
    push_cast
    ring
  have habs : |Fmt.b64.signed s k| = m * 2 ^ e := by rw [Fmt.signed_abs, hmag]
  obtain ⟨r, hr, hrounds⟩ :=
    Fmt.exists_rounds_roundMag Fmt.b64_ok (m := m) (.inl rfl) habs Fmt.signed_sign
  obtain rfl : r = k := by
    have hpos := Fmt.b64.two_pow_qmin_pos.ne'
    have hn := hrounds.nearest
    rw [Fmt.signed_abs, mul_div_cancel_right₀ _ hpos] at hn
    exact hn.eq_of_units
  have hfin : r < Fmt.b64.inf := (hrounds.lt_inf_iff Fmt.b64_ok).2 (habs ▸ hlt)
  rw [pack, hr, min_eq_left hfin.le, isFinite_iff, value_eq, sign_ofMag hfin.le, mag_ofMag hfin.le, hmag]
  exact ⟨hfin, rfl⟩

theorem F32.toF64?_exact {v : F32} (h : F32.isFinite v = true) :
    ∃ w, F32.toF64? v = some w ∧ F64.isFinite w = true ∧ F64.sign w = v.msb ∧ F64.value w = F32.value v := by
  have hval := value_eq v
  have hlt := (abs_value_lt h).trans_le Fmt.b32_overflow_le_b64
  rw [hval, Fmt.signed_abs, ← mant_mul] at hlt
  obtain ⟨hfin, hw⟩ := F64.value_pack (s := v.msb) ((mant_lt v).trans (by decide)) (by rw [Fmt.b64_qmin]; omega) hlt
  refine ⟨_, toF64?_of_isFinite h, hfin, F64.sign_pack _ _ _, ?_⟩
  rw [hw, hval, mant_mul]
  rfl

/-- Narrowing gives back what was widened. -/
theorem F32.toF64?_toF32? {v : F32} (h : F32.isNaN v = false) :
    ∃ w, F32.toF64? v = some w ∧ F64.toF32? w = some v := by
  by_cases hinf : F32.isInf v = true
  · have hw : F64.isInf (F64.inf v.msb) = true := (F64.isInf_iff _).2 (F64.mag_ofMag le_rfl)
    have hs : F64.sign (F64.inf v.msb) = v.msb := F64.sign_ofMag le_rfl
    refine ⟨_, toF64?_of_isInf hinf, ?_⟩
    rw [isInf_iff] at hinf
    rw [F64.toF32?_of_isInf hw, hs, ← hinf, ofMag_msb_mag hinf.le]
  · have hfin : F32.isFinite v = true := by
      rw [isInf_iff] at hinf
      rw [← Bool.not_eq_true, isNaN_iff] at h
      rw [isFinite_iff]; omega
    obtain ⟨w, hvw, hwfin, hws, hval⟩ := toF64?_exact hfin
    obtain ⟨u, hwu, ⟨-, hu⟩, hus⟩ := F64.toF32?_rounds hwfin
    rw [hval, ← Fmt.b32_overflow, if_pos (abs_value_lt hfin)] at hu
    -- `v` itself is at distance 0, so the nearest binary32 value is `v`'s.
    have hdist : |F32.value u - F32.value v| ≤ 0 := by simpa using hu.2.1 v hfin
    have heq : F32.value u = F32.value v := sub_eq_zero.1 (abs_nonpos_iff.1 hdist)
    exact ⟨w, hvw, by rw [hwu, eq_of_value (hus.trans hws) heq]⟩

/-! ### Truncation -/

theorem F64.trunc_eq (v : F64) : F64.trunc v =
    if F64.sign v then -(⌊|F64.value v|⌋₊ : Int) else ⌊|F64.value v|⌋₊ := by
  have hmag : ⌊|F64.value v|⌋₊ =
      if 0 ≤ F64.qexp v then F64.mant v <<< (F64.qexp v).toNat else F64.mant v >>> (-F64.qexp v).toNat := by
    rw [abs_value]
    split
    · next h =>
      obtain ⟨i, hi⟩ : ∃ i : Nat, F64.qexp v = i := ⟨(F64.qexp v).toNat, by omega⟩
      rw [hi, zpow_natCast, Nat.shiftLeft_eq, Int.toNat_natCast]
      exact_mod_cast Nat.floor_natCast (R := ℚ) _
    · next h =>
      obtain ⟨i, hi⟩ : ∃ i : Nat, F64.qexp v = -i := ⟨(-F64.qexp v).toNat, by omega⟩
      rw [hi, neg_neg, zpow_neg, zpow_natCast, ← div_eq_mul_inv, Nat.shiftRight_eq_div_pow, Int.toNat_natCast]
      exact_mod_cast Nat.floor_div_eq_div (K := ℚ) (F64.mant v) (2 ^ i)
  rw [hmag]; rfl

/-- A nonnegative value truncates to its floor, a negative one to its ceiling. -/
theorem F64.trunc_toward_zero (v : F64) :
    F64.trunc v = if 0 ≤ F64.value v then ⌊F64.value v⌋ else ⌈F64.value v⌉ := by
  rw [trunc_eq]
  by_cases h0 : F64.value v = 0
  · simp [h0]
  have hs := sign_eq_decide v h0
  by_cases hneg : F64.value v < 0
  · simp [hs, hneg, hneg.not_ge, abs_of_neg hneg, Int.natCast_floor_eq_floor, hneg.le, Int.floor_neg]
  · have hpos := not_lt.1 hneg
    simp [hs, hpos, abs_of_nonneg hpos, Int.natCast_floor_eq_floor]

/-! ### Comparisons -/

/-- The numbers of a format in the order of the comparisons: pattern `k` of either sign, in units. -/
def Fmt.ordered (f : Fmt) (k : Int) : Int := k.sign * f.units k.natAbs

theorem Fmt.ordered_natCast (f : Fmt) (k : Nat) : f.ordered k = f.units k := by
  by_cases hk : k = 0
  · simp [ordered, hk]
  · rw [ordered, Int.natAbs_natCast, Int.sign_natCast_of_ne_zero hk, one_mul]

theorem Fmt.ordered_neg (f : Fmt) (k : Int) : f.ordered (-k) = -f.ordered k := by simp [ordered]

theorem Fmt.ordered_strictMono (f : Fmt) : StrictMono f.ordered := by
  refine strictMono_of_odd_strictMonoOn_nonneg f.ordered_neg fun j hj k hk hjk => ?_
  obtain ⟨j, rfl⟩ := Int.eq_ofNat_of_zero_le hj
  obtain ⟨k, rfl⟩ := Int.eq_ofNat_of_zero_le hk
  rw [ordered_natCast, ordered_natCast]
  exact_mod_cast f.units_strictMono (Int.ofNat_lt.1 hjk)

theorem F64.key_eq (v : F64) : F64.key v = if F64.sign v then -(F64.mag v : Int) else F64.mag v := rfl

theorem F64.value_eq_ordered (v : F64) : F64.value v = Fmt.b64.ordered (F64.key v) * 2 ^ Fmt.b64.qmin := by
  rw [value_eq, Fmt.signed, key_eq]
  cases F64.sign v <;> simp [Fmt.ordered_neg, Fmt.ordered_natCast]

/-- The place of a key in the order of the comparisons, the infinities at its ends. -/
def F64.placeOfKey (k : Int) : WithBot (WithTop ℚ) :=
  if k ≤ -Fmt.b64.inf then ⊥
  else if Fmt.b64.inf ≤ k then ((⊤ : WithTop ℚ) : WithBot (WithTop ℚ))
  else ((Fmt.b64.ordered k * 2 ^ Fmt.b64.qmin : ℚ) : WithTop ℚ)

theorem F64.placeOfKey_strictMonoOn :
    StrictMonoOn F64.placeOfKey (Set.Icc (-(Fmt.b64.inf : Int)) Fmt.b64.inf) := by
  intro j hj k hk hjk
  have hj' : ¬ (Fmt.b64.inf : Int) ≤ j := not_le.2 (hjk.trans_le hk.2)
  have hk' : ¬ k ≤ -(Fmt.b64.inf : Int) := not_le.2 (hj.1.trans_lt hjk)
  simp only [placeOfKey, if_neg hj', if_neg hk']
  split
  · split <;> exact WithBot.bot_lt_coe _
  · split
    · exact WithBot.coe_lt_coe.2 (WithTop.coe_lt_top _)
    · have hpos := Fmt.b64.two_pow_qmin_pos
      have hord : (Fmt.b64.ordered j : ℚ) < Fmt.b64.ordered k := by exact_mod_cast Fmt.b64.ordered_strictMono hjk
      exact WithBot.coe_lt_coe.2 (WithTop.coe_lt_coe.2 (mul_lt_mul_of_pos_right hord hpos))

theorem F64.key_mem {v : F64} (h : F64.isNaN v = false) :
    F64.key v ∈ Set.Icc (-(Fmt.b64.inf : Int)) Fmt.b64.inf := by
  rw [← Bool.not_eq_true, isNaN_iff] at h
  rw [key_eq, Set.mem_Icc]
  split <;> omega

theorem F64.place_eq {v : F64} (h : F64.isNaN v = false) : F64.place v = F64.placeOfKey (F64.key v) := by
  have hinf := isInf_iff v
  have hpos : 0 < Fmt.b64.inf := by decide
  rw [← Bool.not_eq_true, isNaN_iff] at h
  rw [place, placeOfKey, value_eq_ordered]
  have hkey := key_eq v
  by_cases hi : F64.isInf v = true
  · rw [hinf.1 hi] at hkey
    cases hs : F64.sign v
    · simp [hi, hkey, hs, hpos.ne']
    · simp [hi, hkey, hs]
  · have hmag : F64.mag v < Fmt.b64.inf := by
      have := mt hinf.2 hi
      omega
    have hlo : ¬ F64.key v ≤ -(Fmt.b64.inf : Int) := by rw [hkey]; split <;> omega
    have hhi : ¬ (Fmt.b64.inf : Int) ≤ F64.key v := by rw [hkey]; split <;> omega
    rw [if_neg hi, if_neg hlo, if_neg hhi]

theorem F64.comparisons_of_numbers {a b : F64} (ha : F64.isNaN a = false) (hb : F64.isNaN b = false) :
    (F64.lt a b = true ↔ F64.place a < F64.place b) ∧ (F64.le a b = true ↔ F64.place a ≤ F64.place b) ∧
      (F64.eq a b = true ↔ F64.place a = F64.place b) ∧ (F64.ne a b = true ↔ F64.place a ≠ F64.place b) := by
  have hmono := placeOfKey_strictMonoOn
  have hlt := hmono.lt_iff_lt (key_mem ha) (key_mem hb)
  have hle := hmono.le_iff_le (key_mem ha) (key_mem hb)
  have heq := hmono.injOn.eq_iff (key_mem ha) (key_mem hb)
  rw [place_eq ha, place_eq hb, hlt, hle, ne_eq, heq]
  simp [lt, le, ne, eq, ha, hb]

theorem F64.comparisons_of_isNaN {a b : F64} (h : F64.isNaN a = true ∨ F64.isNaN b = true) :
    F64.lt a b = false ∧ F64.le a b = false ∧ F64.eq a b = false ∧ F64.ne a b = true := by
  rcases h with h | h <;> simp [lt, le, ne, eq, h]

end Sys2Proof.Machine

open Sys2Proof.Machine

/-- Settles O24: a finite value is rounded once to binary32, and the two other kinds are read off. -/
theorem narrowingRoundsToNearest : Obligations.NarrowingRoundsToNearest := fun _ =>
  ⟨F64.toF32?_rounds,
    fun h => ⟨_, F64.toF32?_of_isInf h, (F32.isInf_iff _).2 (F32.mag_ofMag le_rfl), F32.msb_ofMag le_rfl⟩,
    F64.toF32?_of_isNaN⟩

/-- Settles O25: a binary32 significand fits a binary64 one, and a number of binary32 is its own rounding. -/
theorem wideningIsExact : Obligations.WideningIsExact := fun _ =>
  ⟨fun h => by
      obtain ⟨w, hvw, hfin, -, hval⟩ := F32.toF64?_exact h
      exact ⟨w, hvw, hfin, hval⟩,
    F32.toF64?_toF32?, F32.toF64?_of_isNaN⟩

/-- Settles O26: the shifts of `trunc` are the floor of the magnitude. -/
theorem truncTowardZero : Obligations.TruncTowardZero := fun v _ => F64.trunc_toward_zero v

/-- Settles O27: the key of a pattern is strictly monotone in its place. -/
theorem comparisonsFollowValues : Obligations.ComparisonsFollowValues := fun a b =>
  ⟨F64.comparisons_of_numbers, F64.comparisons_of_isNaN, by decide⟩
end

section
/-! PROOFS. The block as ten units side by side (spec/10_state.md R30): what a unit holds, how a command that acts on one
unit alone looks, and that a command built from the operations of Machine/Ops.lean is one. -/

namespace Sys2Proof.Machine

/-! ### A unit of the block -/

/-- What a unit holds: its state and, but for FDB, its staging record (10_state.md R30, R31). -/
abbrev UnitState : UnitId → Type
  | .tank => Tank × TankRec
  | .biquad => Biquad × BiquadRec
  | .fdb => Fdb
  | .lfo => Lfo × LfoRec
  | .onepole => OnePole × OnePoleRec
  | .sdelay => SDelay × SDelayRec
  | .apf => Apf × ApfRec
  | .napf => Napf × NapfRec
  | .filter => Filter × FilterRec
  | .shelf => Shelf × ShelfRec

/-- What unit `u` holds in a state. -/
def State.unit (s : State) : (u : UnitId) → UnitState u
  | .tank => (s.tank, s.tankStg)
  | .biquad => (s.biquad, s.biquadStg)
  | .fdb => s.fdb
  | .lfo => (s.lfo, s.lfoStg)
  | .onepole => (s.onepole, s.onepoleStg)
  | .sdelay => (s.sdelay, s.sdelayStg)
  | .apf => (s.apf, s.apfStg)
  | .napf => (s.napf, s.napfStg)
  | .filter => (s.filter, s.filterStg)
  | .shelf => (s.shelf, s.shelfStg)

/-- The state in which unit `u` holds `x`. -/
def State.setUnit (s : State) : (u : UnitId) → UnitState u → State
  | .tank, x => (s.setTank x.1).setTankStg x.2
  | .biquad, x => (s.setBiquad x.1).setBiquadStg x.2
  | .fdb, x => s.setFdb x
  | .lfo, x => (s.setLfo x.1).setLfoStg x.2
  | .onepole, x => (s.setOnepole x.1).setOnepoleStg x.2
  | .sdelay, x => (s.setSdelay x.1).setSdelayStg x.2
  | .apf, x => (s.setApf x.1).setApfStg x.2
  | .napf, x => (s.setNapf x.1).setNapfStg x.2
  | .filter, x => (s.setFilter x.1).setFilterStg x.2
  | .shelf, x => (s.setShelf x.1).setShelfStg x.2

theorem sameUnit_iff (u : UnitId) (s t : State) : sameUnit u s t ↔ t.unit u = s.unit u := by
  cases u <;> simp [sameUnit, State.unit]

@[simp] theorem State.unit_setUnit_same (s : State) (u : UnitId) (x : UnitState u) : (s.setUnit u x).unit u = x := by
  cases u <;> rfl

theorem State.unit_setUnit_of_ne {u v : UnitId} (h : v ≠ u) (s : State) (x : UnitState u) :
    (s.setUnit u x).unit v = s.unit v := by
  cases u <;> cases v <;> simp [State.setUnit, State.unit] at h ⊢

theorem State.setUnit_unit (s : State) (u : UnitId) : s.setUnit u (s.unit u) = s := by
  cases u <;> rfl

@[simp] theorem State.setUnit_cfg (s : State) (u : UnitId) (x : UnitState u) : (s.setUnit u x).cfg = s.cfg := by
  cases u <;> rfl

@[simp] theorem State.setUnit_draws (s : State) (u : UnitId) (x : UnitState u) : (s.setUnit u x).draws = s.draws := by
  cases u <;> rfl

@[simp] theorem State.setUnit_tx (s : State) (u : UnitId) (x : UnitState u) : (s.setUnit u x).tx = s.tx := by
  cases u <;> rfl

@[simp] theorem State.unit_answer (s : State) (u : UnitId) (n : Nat) (r : Response) :
    (s.answer n r).unit u = s.unit u := by
  cases u <;> rfl

@[simp] theorem State.unit_setRx (s : State) (u : UnitId) (bs : List Byte) : (s.setRx bs).unit u = s.unit u := by
  cases u <;> rfl

/-! ### A command on one unit -/

/-- What a command leaves behind: its unit, the free-value counter and the response. -/
structure UnitAnswer (u : UnitId) where
  unit : UnitState u
  draws : Nat
  response : Response

/-- The state after a command on unit `u`. -/
def State.reply (s : State) (u : UnitId) (a : UnitAnswer u) : State := (s.setUnit u a.unit).answer a.draws a.response

/-- The command `o` reads and writes unit `u` alone: its outcome is a function of the parameters, the free-value counter
and what the unit holds. What the unit holds before and after meets `P`. -/
def Acts (u : UnitId) (P : Params → UnitState u → UnitState u → Prop) (o : State → Out) : Prop :=
  ∃ f : Params → Nat → UnitState u → UnitAnswer u, (∀ p n x, P p x (f p n x).unit) ∧
    ∀ s, o s = .next (s.reply u (f s.cfg s.draws (s.unit u)))

section
variable (u : UnitId) {P : Params → UnitState u → UnitState u → Prop}

/-- A command that leaves everything but the answer, whatever the answer. -/
theorem acts_unchanged (r : UnitState u → Response) (hP : ∀ p x, P p x x) :
    Acts u P fun s => .next (s.answer s.draws (r (s.unit u))) :=
  ⟨fun _ n x => ⟨x, n, r x⟩, fun p _ x => hP p x, fun s => by rw [State.reply, State.setUnit_unit]⟩

theorem acts_illegal (hP : ∀ p x, P p x x) : Acts u P illegal :=
  acts_unchanged u (fun _ => { status := statusIllegal, results := [] }) hP

theorem acts_notReady (hP : ∀ p x, P p x x) : Acts u P notReady :=
  acts_unchanged u (fun _ => { status := statusNotReady, results := [] }) hP

theorem acts_notHandled (hP : ∀ p x, P p x x) : Acts u P notHandled :=
  acts_unchanged u (fun _ => { status := statusNotHandled, results := [] }) hP

/-- A performed command that only reads its unit. -/
theorem acts_read (rs : UnitState u → List Word64) (hP : ∀ p x, P p x x) :
    Acts u P fun s => performed s (rs (s.unit u)) :=
  acts_unchanged u (fun x => { status := statusPerformed false, results := rs x }) hP

/-- A performed command that changes its unit without arithmetic. -/
theorem acts_performed (up : UnitState u → UnitState u) (hP : ∀ p x, P p x (up x)) :
    Acts u P fun s => performed (s.setUnit u (up (s.unit u))) [] :=
  ⟨fun _ n x => ⟨up x, n, { status := statusPerformed false, results := [] }⟩, fun p _ x => hP p x, fun s => by
    simp only [performed, State.setUnit_draws]; rfl⟩

/-- A command that runs one procedure: `up` puts its result back and `rs` reads the result words. -/
theorem acts_procedure {α : Type} (m : Params → UnitState u → FpM α) (up : UnitState u → α → UnitState u)
    (rs : α → List Word64) (hP : ∀ p x fx, P p x (up x ((m p x).apply fx).1)) :
    Acts u P fun s => perform s (m s.cfg (s.unit u) >>= fun a => pure (s.setUnit u (up (s.unit u) a), rs a)) :=
  ⟨fun p n x =>
    { unit := up x ((m p x).apply { draws := n, uf := false }).1
      draws := ((m p x).apply { draws := n, uf := false }).2.draws
      response :=
        { status := statusPerformed ((m p x).apply { draws := n, uf := false }).2.uf
          results := rs ((m p x).apply { draws := n, uf := false }).1 } },
    fun p _ x => hP p x _, fun _ => rfl⟩

/-- Two commands and a test of the unit that chooses between them. -/
theorem acts_ite (c : Params → UnitState u → Bool) {o o' : State → Out}
    (h : Acts u (fun p x x' => c p x = true → P p x x') o) (h' : Acts u P o') :
    Acts u P fun s => if c s.cfg (s.unit u) then o s else o' s := by
  obtain ⟨f, hf, ef⟩ := h
  obtain ⟨g, hg, eg⟩ := h'
  refine ⟨fun p n x => if c p x then f p n x else g p n x, fun p n x => ?_, fun s => ?_⟩
  · dsimp only
    split
    · next hc => exact hf p n x hc
    · exact hg p n x
  · simp only [ef, eg]; split <;> rfl

theorem acts_orIllegal (c : Params → UnitState u → Bool) {o : State → Out} (hP : ∀ p x, P p x x)
    (h : Acts u (fun p x x' => c p x = true → P p x x') o) :
    Acts u P fun s => if c s.cfg (s.unit u) then o s else illegal s :=
  acts_ite u c h (acts_illegal u hP)

theorem acts_orNotReady (c : Params → UnitState u → Bool) {o : State → Out} (hP : ∀ p x, P p x x)
    (h : Acts u (fun p x x' => c p x = true → P p x x') o) :
    Acts u P fun s => if c s.cfg (s.unit u) then o s else notReady s :=
  acts_ite u c h (acts_notReady u hP)

theorem acts_resultOrIllegal (r : UnitState u → Option Word64) (hP : ∀ p x, P p x x) :
    Acts u P fun s => resultOrIllegal s (r (s.unit u)) := by
  have e : (fun s : State => resultOrIllegal s (r (s.unit u))) = fun s => .next (s.answer s.draws
      ((r (s.unit u)).elim { status := statusIllegal, results := [] }
        fun v => { status := statusPerformed false, results := [v] })) := by
    funext s
    cases r (s.unit u) <;> rfl
  rw [e]
  exact acts_unchanged u (fun x => (r x).elim _ _) hP

/-- A command that stores what `r` makes of its operands, where it makes something of them. -/
theorem acts_updateOrIllegal {α : Type} (r : UnitState u → Option α) (up : UnitState u → α → UnitState u)
    (hP : ∀ p x, P p x x) (hup : ∀ p x a, P p x (up x a)) :
    Acts u P fun s => updateOrIllegal s ((r (s.unit u)).map fun a => s.setUnit u (up (s.unit u) a)) := by
  refine ⟨fun _ n x => (r x).elim ⟨x, n, { status := statusIllegal, results := [] }⟩
    fun a => ⟨up x a, n, { status := statusPerformed false, results := [] }⟩, fun p n x => ?_, fun s => ?_⟩
  · cases h : r x with
    | none => simpa only [h, Option.elim] using hP p x
    | some a => simpa only [h, Option.elim] using hup p x a
  · cases h : r (s.unit u) with
    | none => simp only [h, Option.map_none, Option.elim, State.reply, State.setUnit_unit]; rfl
    | some a => simp only [h, Option.map_some, updateOrIllegal, performed, State.setUnit_draws]; rfl

theorem acts_frameNotHandled (sel : BitVec 8) (ops : List Word64) (hP : ∀ p x, P p x x) :
    Acts u P (frameNotHandled sel ops) := by
  unfold frameNotHandled
  cases frameForm? sel ops.length
  · exact acts_illegal u hP
  · exact acts_notHandled u hP

end

end Sys2Proof.Machine
end

section
/-! PROOFS. What the procedures keep (spec/10_state.md R45, R52, R53; 44_filter_designer.md R290, R296; 48_allpass.md R403,
R421; 49_reverb_tank.md R454): the well-formedness of `State.Inv`, component by component. -/

namespace Sys2Proof.Machine

theorem FpM.Spec.result {α : Type} {m : FpM α} {P : α → Bool → Prop} (h : m.Spec P) (fx : Fx) :
    ∃ uf, P (m.apply fx).1 uf :=
  (h fx).imp fun _ h => h.1

theorem FpM.Quiet.result {α : Type} {m : FpM α} {P : α → Prop} (h : m.Quiet P) (fx : Fx) : P (m.apply fx).1 :=
  (FpM.Spec.result h fx).elim fun _ h => h.1

/-! ### Delay lines -/

theorem LineCreated.record {d d' : SDelay} {sr ms : F64} (h : LineCreated d sr ms d') : d'.record = d.record := by
  obtain ⟨_, _, _, _, rfl⟩ := h; rfl

theorem LineSet.record {d d' : SDelay} {r : SDelayRec} (h : LineSet d r d') : d'.record = r := by
  obtain ⟨_, _, rfl⟩ := h; rfl

theorem LineStep.record {d d' : SDelay} {x y : F64} (h : LineStep d x y d') : d'.record = d.record := by
  unfold LineStep at h
  split at h <;> rw [h.2]

theorem sdReset_record (d : SDelay) (sr : F64) (fx : Fx) : ((sdReset d sr).apply fx).1.record = d.record :=
  ((sdReset_keeps d sr).result fx).1

/-- A line is created anew where the rate changes, which its length must allow, and flushed otherwise (47_simple_delay.md
R361). -/
theorem sdReset_buffer_ok {l : Nat} {d : SDelay} {sr : F64} (hd : d.buf.Ok l)
    (hf : needsCreate d sr = false ∨ fits l sr d.bufMs = true) (fx : Fx) : ((sdReset d sr).apply fx).1.buf.Ok l := by
  unfold sdReset
  cases hn : needsCreate d sr with
  | false => exact hd.flush
  | true =>
    have hfit : fits l sr d.bufMs = true := hf.resolve_left (by simp [hn])
    exact ((sdCreate_spec d sr d.bufMs (fits_need hfit)).result fx).buffer_ok hfit

/-! ### Oscillators -/

theorem LfoRestarted.record {o o' : Lfo} {sr : F64} (h : LfoRestarted o sr o') : o'.record = o.record := by
  obtain ⟨_, _, rfl⟩ := h; rfl

theorem LfoSet.record {o o' : Lfo} {r : LfoRec} (h : LfoSet o r o') : o'.record = r := by
  unfold LfoSet at h
  split at h
  · rw [h]
  · obtain ⟨_, _, rfl⟩ := h; rfl

theorem RenderGives.record {o o' : Lfo} {y q : F64} (h : RenderGives o y q o') : o'.record = o.record := by
  obtain ⟨_, _, _, _, _, _, _, _, _, _, rfl⟩ := h; rfl

/-! ### Filters -/

theorem OnePoleStep.record {p : Params} {h h' : OnePole} {x y : F64} {uf : Bool} (hs : OnePoleStep p h x y h' uf) :
    h'.record = h.record := by
  obtain ⟨_, _, _, _, _, _, _, _, _, rfl⟩ := hs; rfl

theorem BiquadStep.keeps {thr : F64} {q q' : Biquad} {x y : F64} {uf : Bool} (h : BiquadStep thr q x y q' uf) :
    q'.record = q.record ∧ q'.coef = q.coef := by
  obtain ⟨_, _, _, _, _, rfl⟩ := h; exact ⟨rfl, rfl⟩

theorem FilterStep.record {thr : F64} {f f' : Filter} {x y : F64} {uf : Bool} (h : FilterStep thr f x y f' uf) :
    f'.record = f.record := by
  obtain ⟨_, _, _, _, _, _, _, _, rfl⟩ := h; rfl

theorem FilterStep.ok {thr : F64} {f f' : Filter} {x y : F64} {uf : Bool} (h : FilterStep thr f x y f' uf) (hf : f.Ok) :
    f'.Ok := by
  obtain ⟨_, _, _, _, _, hq, _, _, rfl⟩ := h
  obtain ⟨hr, hc⟩ := hq.keeps
  exact ⟨by rw [hr]; exact hf.structureFixed, hc.trans hf.coefShared, hf.positiveQ⟩

theorem Filter.Ok.reset {f : Filter} (hf : f.Ok) (sr : F64) : (afReset f sr).Ok :=
  ⟨hf.structureFixed, hf.coefShared, hf.positiveQ⟩

/-- A new design shares its coefficients with the biquad and stores no non-positive Q (44_filter_designer.md R296). -/
theorem FilterSet.ok {f f' : Filter} {r : FilterRec} (h : FilterSet f r f') (hf : f.Ok) : f'.Ok := by
  unfold FilterSet at h
  split at h
  · rw [h]; exact hf
  · obtain ⟨c, _, rfl⟩ := h
    refine ⟨hf.structureFixed, rfl, ?_⟩
    dsimp only
    split
    · decide
    · next hq => exact Bool.not_eq_true _ ▸ hq

theorem FilterSet.algorithm {f f' : Filter} {r : FilterRec} (h : FilterSet f r f')
    (hr : r.algorithm = f.record.algorithm) : f'.record.algorithm = f.record.algorithm := by
  unfold FilterSet at h
  split at h
  · rw [h]
  · obtain ⟨c, _, rfl⟩ := h; exact hr

/-- An equalizer with well-formed designers (10_state.md R53). -/
structure Shelf.WellFormed (e : Shelf) : Prop where
  algorithms : e.Ok
  low : e.lo.Ok
  high : e.hi.Ok

theorem Shelf.WellFormed.reset {e : Shelf} (h : e.WellFormed) (sr : F64) : (shReset e sr).WellFormed :=
  ⟨⟨h.algorithms.low, h.algorithms.high⟩, h.low.reset sr, h.high.reset sr⟩

theorem ShelfSet.wellFormed {e e' : Shelf} {r : ShelfRec} (h : ShelfSet e r e') (he : e.WellFormed) :
    e'.WellFormed := by
  obtain ⟨hlo, hhi, _⟩ := h
  exact ⟨⟨(hlo.algorithm rfl).trans he.algorithms.low, (hhi.algorithm rfl).trans he.algorithms.high⟩, hlo.ok he.low,
    hhi.ok he.high⟩

theorem ShelfStep.record {thr : F64} {e e' : Shelf} {x y : F64} {uf : Bool} (h : ShelfStep thr e x y e' uf) :
    e'.record = e.record := by
  obtain ⟨_, _, _, _, _, hr, _⟩ := h; exact hr

theorem ShelfStep.wellFormed {thr : F64} {e e' : Shelf} {x y : F64} {uf : Bool} (h : ShelfStep thr e x y e' uf)
    (he : e.WellFormed) : e'.WellFormed := by
  obtain ⟨_, _, _, hlo, hhi, _⟩ := h
  exact ⟨⟨by rw [hlo.record]; exact he.algorithms.low, by rw [hhi.record]; exact he.algorithms.high⟩, hlo.ok he.low,
    hhi.ok he.high⟩

/-! ### All-pass sections -/

/-- A section with a well-formed memory and an oscillator that runs TRIANGLE (48_allpass.md R403). -/
structure Apf.WellFormed (l : Nat) (a : Apf) : Prop where
  buffer : a.sd.buf.Ok l
  waveform : a.lfo.record.waveform = .triangle

theorem ApfSet.record {a a' : Apf} {r : ApfRec} (h : ApfSet a r a') : a'.record = r := by
  obtain ⟨_, _, hr, _⟩ := h; exact hr

theorem ApfSet.wellFormed {l : Nat} {a a' : Apf} {r : ApfRec} (h : ApfSet a r a') (ha : a.WellFormed l) :
    a'.WellFormed l := by
  obtain ⟨hline, hlfo, _⟩ := h
  exact ⟨hline.buffer_ok ha.buffer, by rw [hlfo.record]⟩

theorem ApfRestarted.record {a a' : Apf} {sr ms : F64} (h : ApfRestarted a sr ms a') : a'.record = a.record := by
  obtain ⟨_, _, hr, _⟩ := h; exact hr

theorem ApfRestarted.wellFormed {l : Nat} {a a' : Apf} {sr ms : F64} (h : ApfRestarted a sr ms a')
    (hf : fits l sr ms = true) (ha : a.WellFormed l) : a'.WellFormed l := by
  obtain ⟨hlfo, hline, _⟩ := h
  exact ⟨hline.buffer_ok hf, by rw [hlfo.record]; exact ha.waveform⟩

/-- `a'` is `a` after `apf_create(a, sr, ms)` (48_allpass.md R401). -/
def ApfCreated (a : Apf) (sr ms : F64) (a' : Apf) : Prop := LineCreated a.sd sr ms a'.sd ∧ a' = { a with sd := a'.sd }

theorem apfCreate_created {l : Nat} (a : Apf) {sr ms : F64} (h : fits l sr ms = true) :
    (apfCreate a sr ms).Quiet (ApfCreated a sr ms) := apfCreate_spec a sr ms (fits_need h)

theorem ApfCreated.record {a a' : Apf} {sr ms : F64} (h : ApfCreated a sr ms a') : a'.record = a.record := by
  rw [h.2]

theorem ApfCreated.wellFormed {l : Nat} {a a' : Apf} {sr ms : F64} (h : ApfCreated a sr ms a')
    (hf : fits l sr ms = true) (ha : a.WellFormed l) : a'.WellFormed l :=
  ⟨h.1.buffer_ok hf, by rw [h.2]; exact ha.waveform⟩

/-- The sections of a created cell (48_allpass.md R420). -/
theorem napfCreate_created {l : Nat} (n : Napf) {sr mo mi : F64} (ho : fits l sr mo = true) (hi : fits l sr mi = true) :
    (napfCreate n sr mo mi).Quiet fun n' =>
      ApfCreated n.outer sr mo n'.outer ∧ ApfCreated n.inner sr mi n'.inner ∧ n'.record = n.record :=
  quiet_mono (napfCreate_spec n sr mo mi (fits_need ho) (fits_need hi)) fun _ ⟨lo, li, hr, eo, ei⟩ =>
    ⟨⟨lo, eo⟩, ⟨li, ei⟩, hr⟩

theorem TapGives.lfo_record {a : Apf} {v : F64} {o' : Lfo} (h : TapGives a v o') : o'.record = a.lfo.record := by
  unfold TapGives at h
  split at h
  · obtain ⟨_, _, _, hr, _⟩ := h; exact hr.record
  · rw [h.2]

theorem ApfStep.record {p : Params} {a a' : Apf} {x y : F64} {uf : Bool} (h : ApfStep p a x y a' uf) :
    a'.record = a.record := by
  unfold ApfStep at h
  split at h
  · rw [h.2.1]
  · obtain ⟨_, _, _, _, _, _, _, _, _, _, _, _, rfl⟩ := h; rfl

theorem ApfStep.wellFormed {l : Nat} {p : Params} {a a' : Apf} {x y : F64} {uf : Bool} (h : ApfStep p a x y a' uf)
    (ha : a.WellFormed l) : a'.WellFormed l := by
  unfold ApfStep at h
  split at h
  · rw [h.2.1]; exact ha
  · obtain ⟨_, _, _, _, _, _, _, htap, _, _, _, _, rfl⟩ := h
    exact ⟨ha.buffer.write _, by rw [htap.lfo_record]; exact ha.waveform⟩

/-- A nested cell with well-formed sections (48_allpass.md R421). -/
structure Napf.WellFormed (l : Nat) (n : Napf) : Prop where
  settings : n.Ok
  outer : n.outer.WellFormed l
  inner : n.inner.WellFormed l

/-- The fixed settings are in the sections' records. -/
theorem Napf.Ok.of_records {n n' : Napf} (h : n.Ok) (ho : n'.outer.record = n.outer.record)
    (hi : n'.inner.record = n.inner.record) : n'.Ok := by
  constructor <;> simp only [ho, hi, h.outerDamping, h.innerDamping, h.innerLfo, h.outerTruncates, h.innerTruncates]

theorem NapfSet.wellFormed {l : Nat} {n n' : Napf} {r : NapfRec} (h : NapfSet n r n') (hn : n.WellFormed l) :
    n'.WellFormed l := by
  obtain ⟨ho, hi, _⟩ := h
  refine ⟨?_, ho.wellFormed hn.outer, hi.wellFormed hn.inner⟩
  obtain ⟨h1, h2, h3, h4, h5⟩ := hn.settings
  constructor <;> simp only [ho.record, hi.record, h1, h2, h3, h4, h5]

theorem NapfRestarted.wellFormed {l : Nat} {n n' : Napf} {sr mo mi : F64} (h : NapfRestarted n sr mo mi n')
    (hfo : fits l sr mo = true) (hfi : fits l sr mi = true) (hn : n.WellFormed l) : n'.WellFormed l := by
  obtain ⟨ho, hi, _⟩ := h
  exact ⟨hn.settings.of_records ho.record hi.record, ho.wellFormed hfo hn.outer, hi.wellFormed hfi hn.inner⟩

theorem NapfRestarted.record {n n' : Napf} {sr mo mi : F64} (h : NapfRestarted n sr mo mi n') :
    n'.record = n.record := by
  obtain ⟨_, _, hr⟩ := h; exact hr

theorem NapfStep.record {p : Params} {n n' : Napf} {x y : F64} {uf : Bool} (h : NapfStep p n x y n' uf) :
    n'.record = n.record := by
  unfold NapfStep at h
  split at h
  · rw [h.2.1]
  · obtain ⟨_, _, _, _, _, _, _, _, _, _, _, _, rfl⟩ := h; rfl

theorem NapfStep.wellFormed {l : Nat} {p : Params} {n n' : Napf} {x y : F64} {uf : Bool} (h : NapfStep p n x y n' uf)
    (hn : n.WellFormed l) : n'.WellFormed l := by
  unfold NapfStep at h
  split at h
  · rw [h.2.1]; exact hn
  · obtain ⟨_, _, _, _, _, _, _, htap, _, hi, _, _, rfl⟩ := h
    exact ⟨hn.settings.of_records rfl hi.record,
      ⟨hn.outer.buffer.write _, by rw [htap.lfo_record]; exact hn.outer.waveform⟩, hi.wellFormed hn.inner⟩

/-! ### The tank -/

/-- One branch of the tank: its delay line truncates (49_reverb_tank.md R454). -/
structure BranchWellFormed (l : Nat) (n : Napf) (d : SDelay) : Prop where
  cell : n.WellFormed l
  buffer : d.buf.Ok l
  truncates : d.record.interpolate = false

theorem BranchStep.wellFormed {l : Nat} {p : Params} {kRT pre input next : F64} {n n' : Napf} {h h' : OnePole}
    {d d' : SDelay} {uf : Bool} (hs : BranchStep p kRT pre input n h d next n' h' d' uf)
    (hw : BranchWellFormed l n d) : BranchWellFormed l n' d' := by
  obtain ⟨_, _, _, _, _, _, hcell, _, hline, _⟩ := hs
  exact ⟨hcell.wellFormed hw.cell, hline.buffer_ok hw.buffer, by rw [hline.record]; exact hw.truncates⟩

/-- A tank with well-formed parts (10_state.md R54). -/
structure Tank.WellFormed (l : Nat) (t : Tank) : Prop where
  preBuffer : t.pre.buf.Ok l
  preTruncates : t.pre.record.interpolate = false
  branches : ∀ i, BranchWellFormed l (t.napf.get i) (t.bd.get i)
  shelfL : t.shelfL.WellFormed
  shelfR : t.shelfR.WellFormed

theorem TankRestarted.record {p : Params} {t t' : Tank} {sr : F64} (h : TankRestarted p t sr t') :
    t'.record = t.record := by
  obtain ⟨_, _, _, _, hr, _⟩ := h; exact hr

theorem TankRestarted.wellFormed {p : Params} {t t' : Tank} {sr : F64} (h : TankRestarted p t sr t')
    (hf : rtFits p sr = true) (ht : t.WellFormed p.lmaxLog2) : t'.WellFormed p.lmaxLog2 := by
  simp only [rtFits, Bool.and_eq_true] at hf
  obtain ⟨⟨hfPre, hfBranch⟩, hfApf⟩ := hf
  obtain ⟨hpre, hbranch, hL, hR, _⟩ := h
  refine ⟨hpre.buffer_ok hfPre, by rw [hpre.record]; exact ht.preTruncates, fun i => ?_, ?_, ?_⟩
  · obtain ⟨hline, hcell, _⟩ := hbranch i
    have hw := ht.branches i
    exact ⟨hcell.wellFormed hfApf hfApf hw.cell, hline.buffer_ok hfBranch, by rw [hline.record]; exact hw.truncates⟩
  · rw [hL]; exact ht.shelfL.reset sr
  · rw [hR]; exact ht.shelfR.reset sr

theorem TankSet.wellFormed {l : Nat} {p : Params} {t t' : Tank} {r : TankRec} (h : TankSet p t r t')
    (ht : t.WellFormed l) : t'.WellFormed l := by
  obtain ⟨hL, hR, hpre, ⟨_, _, _, _, _, _, _, _, hbranch⟩, _⟩ := h
  refine ⟨hpre.buffer_ok ht.preBuffer, by rw [hpre.record]; exact ht.preTruncates, fun i => ?_,
    hL.wellFormed ht.shelfL, hR.wellFormed ht.shelfR⟩
  obtain ⟨_, ⟨_, _, _, _, hcell⟩, _, _, hline⟩ := hbranch i
  have hw := ht.branches i
  exact ⟨hcell.wellFormed hw.cell, hline.buffer_ok hw.buffer, by rw [hline.record]⟩

/-- What a frame does to each part of the tank. -/
theorem GraphStep.parts {p : Params} {t t' : Tank} {inCh : Nat} {xL xR tankL tankR : F64} {uf : Bool}
    (h : GraphStep p t inCh xL xR tankL tankR t' uf) :
    (∃ x y, LineStep t.pre x y t'.pre) ∧
    (∀ i, ∃ kRT pre input next u, BranchStep p kRT pre input (t.napf.get i) (t.lpf.get i) (t.bd.get i) next
      (t'.napf.get i) (t'.lpf.get i) (t'.bd.get i) u) ∧
    (∃ x y u, ShelfStep p.ftzThreshold t.shelfL x y t'.shelfL u) ∧
    (∃ x y u, ShelfStep p.ftzThreshold t.shelfR x y t'.shelfR u) ∧ t'.record = t.record := by
  obtain ⟨_, _, _, _, _, _, _, _, _, _, _, _, _, _, _, _, _, _, _, _, _, _, _, _, hpre, _, h0, h1, h2, h3, _, _, hL, hR,
    hrec, _⟩ := h
  refine ⟨⟨_, _, hpre⟩, fun i => ?_, ⟨_, _, _, hL⟩, ⟨_, _, _, hR⟩, hrec⟩
  match i with
  | 0 => exact ⟨_, _, _, _, _, h0⟩
  | 1 => exact ⟨_, _, _, _, _, h1⟩
  | 2 => exact ⟨_, _, _, _, _, h2⟩
  | 3 => exact ⟨_, _, _, _, _, h3⟩

theorem FrameStep.graph {p : Params} {t t' : Tank} {inCh outCh : Nat} {i0 i1 : F32} {outs : List F32} {uf : Bool}
    (h : FrameStep p t inCh outCh i0 i1 outs t' uf) :
    ∃ xL xR tankL tankR, GraphStep p t inCh xL xR tankL tankR t' uf := by
  obtain ⟨_, _, _, _, _, _, _, _, hg, _⟩ := h
  exact ⟨_, _, _, _, hg⟩

theorem FrameStep.record {p : Params} {t t' : Tank} {inCh outCh : Nat} {i0 i1 : F32} {outs : List F32} {uf : Bool}
    (h : FrameStep p t inCh outCh i0 i1 outs t' uf) : t'.record = t.record := by
  obtain ⟨_, _, _, _, hg⟩ := h.graph
  obtain ⟨_, _, _, _, hrec⟩ := hg.parts
  exact hrec

theorem FrameStep.wellFormed {l : Nat} {p : Params} {t t' : Tank} {inCh outCh : Nat} {i0 i1 : F32} {outs : List F32}
    {uf : Bool} (h : FrameStep p t inCh outCh i0 i1 outs t' uf) (ht : t.WellFormed l) : t'.WellFormed l := by
  obtain ⟨_, _, _, _, hg⟩ := h.graph
  obtain ⟨⟨_, _, hpre⟩, hbranch, ⟨_, _, _, hL⟩, ⟨_, _, _, hR⟩, _⟩ := hg.parts
  refine ⟨hpre.buffer_ok ht.preBuffer, by rw [hpre.record]; exact ht.preTruncates, fun i => ?_,
    hL.wellFormed ht.shelfL, hR.wellFormed ht.shelfR⟩
  obtain ⟨_, _, _, _, _, hb⟩ := hbranch i
  exact hb.wellFormed (ht.branches i)

end Sys2Proof.Machine
end

section
/-! PROOFS. What every command does (spec/10_state.md R30, R31): it acts on the unit it names alone, keeps that unit well
formed and, SETP apart, keeps its committed record. -/

namespace Sys2Proof.Machine

/-! ### What a command keeps of its unit -/

/-- The committed record is the same. FDB has none (10_state.md R31). -/
def SameRecord : (u : UnitId) → UnitState u → UnitState u → Prop
  | .tank, x, x' => x'.1.record = x.1.record
  | .biquad, x, x' => x'.1.record = x.1.record
  | .fdb, _, _ => True
  | .lfo, x, x' => x'.1.record = x.1.record
  | .onepole, x, x' => x'.1.record = x.1.record
  | .sdelay, x, x' => x'.1.record = x.1.record
  | .apf, x, x' => x'.1.record = x.1.record
  | .napf, x, x' => x'.1.record = x.1.record
  | .filter, x, x' => x'.1.record = x.1.record
  | .shelf, x, x' => x'.1.record = x.1.record

theorem SameRecord.refl (u : UnitId) (x : UnitState u) : SameRecord u x x := by
  cases u <;> trivial

/-- The unit is well formed, a delay memory holding at most `2 ^ l` words. -/
def UnitWellFormed (l : Nat) : (u : UnitId) → UnitState u → Prop
  | .tank, x => x.1.WellFormed l
  | .biquad, _ => True
  | .fdb, x => x.Ok l
  | .lfo, _ => True
  | .onepole, _ => True
  | .sdelay, x => x.1.buf.Ok l
  | .apf, x => x.1.WellFormed l
  | .napf, x => x.1.WellFormed l
  | .filter, x => x.1.Ok
  | .shelf, x => x.1.WellFormed

/-- What a command keeps of its unit; `setp` says that it is SETP. -/
structure UnitKept (setp : Bool) (u : UnitId) (p : Params) (x x' : UnitState u) : Prop where
  record : setp = false → SameRecord u x x'
  wellFormed : UnitWellFormed p.lmaxLog2 u x → UnitWellFormed p.lmaxLog2 u x'

theorem UnitKept.refl {setp : Bool} {u : UnitId} (p : Params) (x : UnitState u) : UnitKept setp u p x x :=
  ⟨fun _ => SameRecord.refl u x, id⟩

/-! ### The commands, unit by unit -/

theorem acts_resetTank (sr : F64) : Acts .tank (UnitKept false .tank) (execResetTank sr) :=
  acts_orIllegal .tank (fun p _ => validRate sr && rtFits p sr) UnitKept.refl <|
    acts_procedure .tank (fun p x => rtReset p x.1 sr) (fun x t => (t, x.2)) (fun _ => []) fun p x fx hc => by
      have hf : rtFits p sr = true := (Bool.and_eq_true_iff.1 hc).2
      have h := (rtReset_spec p x.1 sr hf).result fx
      exact ⟨fun _ => h.record, h.wellFormed hf⟩

theorem acts_setpTank : Acts .tank (UnitKept true .tank) execSetpTank :=
  acts_procedure .tank (fun p x => rtSet p x.1 x.2) (fun x t => (t, x.2)) (fun _ => []) fun p x fx =>
    ⟨nofun, ((rtSet_spec p x.1 x.2).result fx).wellFormed⟩

theorem FrameStep.kept {p : Params} {x : UnitState .tank} {t' : Tank} {inCh outCh : Nat} {i0 i1 : F32} {outs : List F32}
    (h : ∃ uf, FrameStep p x.1 inCh outCh i0 i1 outs t' uf) : UnitKept false .tank p x (t', x.2) :=
  h.elim fun _ h => ⟨fun _ => h.record, h.wellFormed⟩

theorem acts_frameTank (sel : BitVec 8) (ops : List Word64) :
    Acts .tank (UnitKept false .tank) (execFrameTank sel ops) := by
  unfold execFrameTank
  cases frameForm? sel ops.length with
  | none => exact acts_illegal .tank UnitKept.refl
  | some io =>
    exact acts_orIllegal .tank (fun _ _ => ops.all isF32Word) UnitKept.refl <|
      acts_orNotReady .tank (fun _ x => tankReady x.1) (fun p x _ => UnitKept.refl p x) <|
        acts_procedure .tank (fun p x => rtFrame p x.1 io.1 io.2 (f32Of (ops.getD 0 0#64)) (f32Of (ops.getD 1 0#64)))
          (fun x r => (r.2, x.2)) (fun r => r.1.map f32Word) fun p x fx _ _ =>
            FrameStep.kept ((rtFrame_spec p x.1 _ _ _ _).result fx)

/-- The procedure of PROC.TANK: a mono frame on the narrowed input, its output widened (49_reverb_tank.md R481). -/
def monoFrame (x : F64) (p : Params) (t : Tank) : FpM (Tank × F64) := do
  let i ← narrow x
  let r ← rtFrame p t 1 1 i 0#32
  let y ← widen (r.1.headD 0#32)
  pure (r.2, y)

theorem monoFrame_spec (x : F64) (p : Params) (t : Tank) : (monoFrame x p t).Spec fun r uf =>
    ∃ i outs, FrameStep p t 1 1 i 0#32 outs r.1 uf :=
  quiet_step (narrow_spec _) fun i _ => spec_bind (rtFrame_spec _ _ _ _ _ _) fun r u h =>
    quiet_step (widen_spec _) fun _ _ => spec_pure ⟨i, r.1, by simpa using h⟩

theorem execProcTank_eq (x : F64) : execProcTank x = fun s =>
    if tankReady s.tank then perform s (monoFrame x s.cfg s.tank >>= fun r => pure (s.setTank r.1, [r.2]))
    else notReady s := by
  funext s
  simp only [execProcTank, monoFrame, bind_assoc, pure_bind]

theorem acts_procTank (x : F64) : Acts .tank (UnitKept false .tank) (execProcTank x) := by
  rw [execProcTank_eq]
  exact acts_orNotReady .tank (fun _ u => tankReady u.1) UnitKept.refl <|
    acts_procedure .tank (fun p u => monoFrame x p u.1) (fun u r => (r.1, u.2)) (fun r => [r.2]) fun p u fx _ => by
      obtain ⟨uf, _, _, h⟩ := (monoFrame_spec x p u.1).result fx
      exact FrameStep.kept ⟨uf, h⟩

theorem acts_bqwcBiquad (k : BitVec 8) (c : F64) : Acts .biquad (UnitKept false .biquad) (execBqwcBiquad k c) :=
  acts_updateOrIllegal .biquad (fun x => Coef.set? x.1.coef k c) (fun x coef => ({ x.1 with coef := coef }, x.2))
    UnitKept.refl fun _ _ _ => ⟨fun _ => rfl, id⟩

theorem acts_procBiquad (x : F64) : Acts .biquad (UnitKept false .biquad) (execProcBiquad x) :=
  acts_procedure .biquad (fun p u => bqProc p u.1 x) (fun u r => (r.2, u.2)) (fun r => [r.1]) fun p u fx => by
    obtain ⟨_, h⟩ := (bqProc_spec p u.1 x).result fx
    exact ⟨fun _ => h.keeps.1, id⟩

theorem acts_resetBiquad (sr : F64) : Acts .biquad (UnitKept false .biquad) (execResetBiquad sr) :=
  acts_orIllegal .biquad (fun _ _ => validRate sr) UnitKept.refl <|
    acts_performed .biquad (fun x => (bqReset x.1, x.2)) fun _ _ _ => ⟨fun _ => rfl, id⟩

theorem acts_setpBiquad : Acts .biquad (UnitKept true .biquad) execSetpBiquad :=
  acts_performed .biquad (fun x => (bqSet x.1 x.2, x.2)) fun _ _ => ⟨nofun, id⟩

/-- A length that fits the limit gives a well-formed buffer (20_memory.md R86). -/
theorem acts_createFdb (n : Word64) : Acts .fdb (UnitKept false .fdb) (execCreateFdb n) :=
  acts_orIllegal .fdb (fun p _ => lengthFits p.lmaxLog2 (max n.toNat 1)) UnitKept.refl <|
    acts_performed .fdb (fun b => fdbCreate b n.toNat) fun p b hc => ⟨fun _ => trivial, fun _ => by
      rw [lengthFits, pow2ceil_max_one] at hc
      rw [fdbCreate_eq]
      exact freshBuffer_ok b.interp hc⟩

theorem acts_writeFdb (x : F64) : Acts .fdb (UnitKept false .fdb) (execWriteFdb x) :=
  acts_orNotReady .fdb (fun _ b => b.alloc) UnitKept.refl <|
    acts_performed .fdb (fun b => fdbWrite b x) fun _ _ _ => ⟨fun _ => trivial, fun h => h.write x⟩

theorem acts_setiFdb (v : Bool) : Acts .fdb (UnitKept false .fdb) (execSetiFdb v) :=
  acts_performed .fdb (fun b => fdbSetInterp b v) fun _ _ => ⟨fun _ => trivial, fun h => h.setInterp v⟩

theorem acts_resetFdb (sr : F64) : Acts .fdb (UnitKept false .fdb) (execResetFdb sr) := by
  have e : execResetFdb sr = fun s =>
      if validRate sr then (if s.fdb.alloc then performed (s.setFdb (fdbFlush s.fdb)) [] else performed s [])
      else illegal s := by
    funext s
    unfold execResetFdb
    cases s.fdb.alloc <;> rfl
  rw [e]
  exact acts_orIllegal .fdb (fun _ _ => validRate sr) UnitKept.refl <|
    acts_ite .fdb (fun _ b => b.alloc)
      (acts_performed .fdb fdbFlush fun _ _ _ _ => ⟨fun _ => trivial, fun h => h.flush⟩)
      (acts_read .fdb (fun _ => []) fun p b _ => UnitKept.refl p b)

theorem acts_readiFdb (d : Word64) : Acts .fdb (UnitKept false .fdb) (execReadiFdb d) := by
  unfold execReadiFdb
  cases integerDelay? d with
  | none => exact acts_illegal .fdb UnitKept.refl
  | some i =>
    exact acts_orNotReady .fdb (fun _ b => b.alloc) UnitKept.refl <|
      acts_read .fdb (fun b => [fdbReadI b i]) fun p b _ => UnitKept.refl p b

theorem acts_readfFdb (d : F64) : Acts .fdb (UnitKept false .fdb) (execReadfFdb d) :=
  acts_orNotReady .fdb (fun _ b => b.alloc) UnitKept.refl <|
    acts_procedure .fdb (fun _ b => fdbReadF b d) (fun b _ => b) (fun y => [y]) fun p b _ _ => UnitKept.refl p b

theorem acts_renderLfo : Acts .lfo (UnitKept false .lfo) execRenderLfo :=
  acts_procedure .lfo (fun _ x => lfoRender x.1) (fun x r => (r.2, x.2))
    (fun r => [r.1.normal, r.1.inverted, r.1.quadPos, r.1.quadNeg]) fun _ x fx =>
      ⟨fun _ => ((lfoRender_spec x.1).result fx).1.record, id⟩

theorem acts_resetLfo (sr : F64) : Acts .lfo (UnitKept false .lfo) (execResetLfo sr) :=
  acts_orIllegal .lfo (fun _ _ => validRate sr) UnitKept.refl <|
    acts_procedure .lfo (fun _ x => lfoReset x.1 sr) (fun x o => (o, x.2)) (fun _ => []) fun _ x fx _ =>
      ⟨fun _ => ((lfoReset_spec x.1 sr).result fx).record, id⟩

theorem acts_setpLfo : Acts .lfo (UnitKept true .lfo) execSetpLfo :=
  acts_procedure .lfo (fun _ x => lfoSet x.1 x.2) (fun x o => (o, x.2)) (fun _ => []) fun _ _ _ => ⟨nofun, id⟩

theorem acts_resetOnepole (sr : F64) : Acts .onepole (UnitKept false .onepole) (execResetOnepole sr) :=
  acts_orIllegal .onepole (fun _ _ => validRate sr) UnitKept.refl <|
    acts_performed .onepole (fun x => (opReset x.1, x.2)) fun _ _ _ => ⟨fun _ => rfl, id⟩

theorem acts_setpOnepole : Acts .onepole (UnitKept true .onepole) execSetpOnepole :=
  acts_performed .onepole (fun x => (opSet x.1 x.2, x.2)) fun _ _ => ⟨nofun, id⟩

theorem acts_procOnepole (x : F64) : Acts .onepole (UnitKept false .onepole) (execProcOnepole x) :=
  acts_procedure .onepole (fun p u => opProc p u.1 x) (fun u r => (r.2, u.2)) (fun r => [r.1]) fun p u fx => by
    obtain ⟨_, h⟩ := (opProc_spec p u.1 x).result fx
    exact ⟨fun _ => h.record, id⟩

theorem acts_createSdelay (sr ms : F64) : Acts .sdelay (UnitKept false .sdelay) (execCreateSdelay sr ms) :=
  acts_orIllegal .sdelay (fun p _ => validRate sr && fits p.lmaxLog2 sr ms) UnitKept.refl <|
    acts_procedure .sdelay (fun _ x => sdCreate x.1 sr ms) (fun x d => (d, x.2)) (fun _ => []) fun p x fx hc => by
      have hf : fits p.lmaxLog2 sr ms = true := (Bool.and_eq_true_iff.1 hc).2
      have h := (sdCreate_spec x.1 sr ms (fits_need hf)).result fx
      exact ⟨fun _ => h.record, fun _ => h.buffer_ok hf⟩

theorem acts_resetSdelay (sr : F64) : Acts .sdelay (UnitKept false .sdelay) (execResetSdelay sr) :=
  acts_orIllegal .sdelay
    (fun p x => validRate sr && (!needsCreate x.1 sr || fits p.lmaxLog2 sr x.1.bufMs)) UnitKept.refl <|
    acts_procedure .sdelay (fun _ x => sdReset x.1 sr) (fun x d => (d, x.2)) (fun _ => []) fun p x fx hc => by
      have hf : needsCreate x.1 sr = false ∨ fits p.lmaxLog2 sr x.1.bufMs = true := by
        simpa using (Bool.and_eq_true_iff.1 hc).2
      exact ⟨fun _ => sdReset_record x.1 sr fx, fun h => sdReset_buffer_ok h hf fx⟩

theorem acts_setpSdelay : Acts .sdelay (UnitKept true .sdelay) execSetpSdelay :=
  acts_procedure .sdelay (fun _ x => sdSet x.1 x.2) (fun x d => (d, x.2)) (fun _ => []) fun _ x fx =>
    ⟨nofun, ((sdSet_spec x.1 x.2).result fx).buffer_ok⟩

theorem acts_procSdelay (x : F64) : Acts .sdelay (UnitKept false .sdelay) (execProcSdelay x) :=
  acts_orNotReady .sdelay (fun _ u => sdBypass u.1 || u.1.buf.alloc) UnitKept.refl <|
    acts_procedure .sdelay (fun _ u => sdProc u.1 x) (fun u r => (r.2, u.2)) (fun r => [r.1]) fun _ u fx _ =>
      ⟨fun _ => ((sdProc_spec u.1 x).result fx).record, ((sdProc_spec u.1 x).result fx).buffer_ok⟩

theorem acts_writeSdelay (x : F64) : Acts .sdelay (UnitKept false .sdelay) (execWriteSdelay x) :=
  acts_orNotReady .sdelay (fun _ u => u.1.buf.alloc) UnitKept.refl <|
    acts_performed .sdelay (fun u => (sdWrite u.1 x, u.2)) fun _ _ _ => ⟨fun _ => rfl, fun h => h.write x⟩

/-- The three reads of a delay line (47_simple_delay.md R376 to R378). -/
theorem acts_readSdelay (m : SDelay → FpM F64) : Acts .sdelay (UnitKept false .sdelay) fun s =>
    if s.sdelay.buf.alloc then perform s (m s.sdelay >>= fun y => pure (s, [y])) else notReady s :=
  acts_orNotReady .sdelay (fun _ u => u.1.buf.alloc) UnitKept.refl <|
    acts_procedure .sdelay (fun _ u => m u.1) (fun u _ => u) (fun y => [y]) fun p u _ _ => UnitKept.refl p u

theorem acts_createApf (sr ms : F64) : Acts .apf (UnitKept false .apf) (execCreateApf sr ms) :=
  acts_orIllegal .apf (fun p _ => validRate sr && fits p.lmaxLog2 sr ms) UnitKept.refl <|
    acts_procedure .apf (fun _ x => apfCreate x.1 sr ms) (fun x a => (a, x.2)) (fun _ => []) fun p x fx hc => by
      have hf : fits p.lmaxLog2 sr ms = true := (Bool.and_eq_true_iff.1 hc).2
      have h := (apfCreate_created x.1 hf).result fx
      exact ⟨fun _ => h.record, h.wellFormed hf⟩

theorem acts_resetApf (sr : F64) : Acts .apf (UnitKept false .apf) (execResetApf sr) :=
  acts_orIllegal .apf (fun p x => validRate sr && fits p.lmaxLog2 sr x.1.sd.bufMs) UnitKept.refl <|
    acts_procedure .apf (fun _ x => apfReset x.1 sr) (fun x a => (a, x.2)) (fun _ => []) fun p x fx hc => by
      have hf : fits p.lmaxLog2 sr x.1.sd.bufMs = true := (Bool.and_eq_true_iff.1 hc).2
      have h := (apfReset_spec x.1 sr (fits_need hf)).result fx
      exact ⟨fun _ => h.record, h.wellFormed hf⟩

theorem acts_setpApf : Acts .apf (UnitKept true .apf) execSetpApf :=
  acts_procedure .apf (fun _ x => apfSet x.1 x.2) (fun x a => (a, x.2)) (fun _ => []) fun _ x fx =>
    ⟨nofun, ((apfSet_spec x.1 x.2).result fx).wellFormed⟩

theorem acts_procApf (x : F64) : Acts .apf (UnitKept false .apf) (execProcApf x) :=
  acts_orNotReady .apf (fun _ u => sdBypass u.1.sd || u.1.sd.buf.alloc) UnitKept.refl <|
    acts_procedure .apf (fun p u => apfProc p u.1 x) (fun u r => (r.2, u.2)) (fun r => [r.1]) fun p u fx _ => by
      obtain ⟨_, h⟩ := (apfProc_spec p u.1 x).result fx
      exact ⟨fun _ => h.record, h.wellFormed⟩

theorem acts_createNapf (sr mo mi : F64) : Acts .napf (UnitKept false .napf) (execCreateNapf sr mo mi) :=
  acts_orIllegal .napf (fun p _ => validRate sr && fits p.lmaxLog2 sr mo && fits p.lmaxLog2 sr mi) UnitKept.refl <|
    acts_procedure .napf (fun _ x => napfCreate x.1 sr mo mi) (fun x n => (n, x.2)) (fun _ => []) fun p x fx hc => by
      obtain ⟨hc, hfi⟩ := Bool.and_eq_true_iff.1 hc
      obtain ⟨-, hfo⟩ := Bool.and_eq_true_iff.1 hc
      obtain ⟨ho, hi, hr⟩ := (napfCreate_created x.1 hfo hfi).result fx
      exact ⟨fun _ => hr, fun hn => ⟨hn.settings.of_records ho.record hi.record, ho.wellFormed hfo hn.outer,
        hi.wellFormed hfi hn.inner⟩⟩

theorem acts_resetNapf (sr : F64) : Acts .napf (UnitKept false .napf) (execResetNapf sr) :=
  acts_orIllegal .napf
    (fun p x => validRate sr && fits p.lmaxLog2 sr x.1.outer.sd.bufMs && fits p.lmaxLog2 sr x.1.inner.sd.bufMs)
    UnitKept.refl <|
    acts_procedure .napf (fun _ x => napfReset x.1 sr) (fun x n => (n, x.2)) (fun _ => []) fun p x fx hc => by
      obtain ⟨hc, hfi⟩ := Bool.and_eq_true_iff.1 hc
      obtain ⟨-, hfo⟩ := Bool.and_eq_true_iff.1 hc
      have h := (napfReset_spec x.1 sr (fits_need hfo) (fits_need hfi)).result fx
      exact ⟨fun _ => h.record, h.wellFormed hfo hfi⟩

theorem acts_setpNapf : Acts .napf (UnitKept true .napf) execSetpNapf :=
  acts_procedure .napf (fun _ x => napfSet x.1 x.2) (fun x n => (n, x.2)) (fun _ => []) fun _ x fx =>
    ⟨nofun, ((napfSet_spec x.1 x.2).result fx).wellFormed⟩

theorem acts_procNapf (x : F64) : Acts .napf (UnitKept false .napf) (execProcNapf x) :=
  acts_orNotReady .napf (fun _ u => napfReady u.1) UnitKept.refl <|
    acts_procedure .napf (fun p u => napfProc p u.1 x) (fun u r => (r.2, u.2)) (fun r => [r.1]) fun p u fx _ => by
      obtain ⟨_, h⟩ := (napfProc_spec p u.1 x).result fx
      exact ⟨fun _ => h.record, h.wellFormed⟩

theorem acts_resetFilter (sr : F64) : Acts .filter (UnitKept false .filter) (execResetFilter sr) :=
  acts_orIllegal .filter (fun _ _ => validRate sr) UnitKept.refl <|
    acts_performed .filter (fun x => (afReset x.1 sr, x.2)) fun _ _ _ => ⟨fun _ => rfl, fun h => h.reset sr⟩

theorem acts_setpFilter : Acts .filter (UnitKept true .filter) execSetpFilter :=
  acts_procedure .filter (fun _ x => afSet x.1 x.2) (fun x f => (f, x.2)) (fun _ => []) fun _ x fx =>
    ⟨nofun, ((afSet_spec x.1 x.2).result fx).ok⟩

theorem acts_procFilter (x : F64) : Acts .filter (UnitKept false .filter) (execProcFilter x) :=
  acts_procedure .filter (fun p u => afProc p u.1 x) (fun u r => (r.2, u.2)) (fun r => [r.1]) fun p u fx => by
    obtain ⟨_, h⟩ := (afProc_spec p u.1 x).result fx
    exact ⟨fun _ => h.record, h.ok⟩

theorem acts_resetShelf (sr : F64) : Acts .shelf (UnitKept false .shelf) (execResetShelf sr) :=
  acts_orIllegal .shelf (fun _ _ => validRate sr) UnitKept.refl <|
    acts_performed .shelf (fun x => (shReset x.1 sr, x.2)) fun _ _ _ => ⟨fun _ => rfl, fun h => h.reset sr⟩

theorem acts_setpShelf : Acts .shelf (UnitKept true .shelf) execSetpShelf :=
  acts_procedure .shelf (fun _ x => shSet x.1 x.2) (fun x e => (e, x.2)) (fun _ => []) fun _ x fx =>
    ⟨nofun, ((shSet_spec x.1 x.2).result fx).wellFormed⟩

theorem acts_procShelf (x : F64) : Acts .shelf (UnitKept false .shelf) (execProcShelf x) :=
  acts_procedure .shelf (fun p u => shProc p u.1 x) (fun u r => (r.2, u.2)) (fun r => [r.1]) fun p u fx => by
    obtain ⟨_, h⟩ := (shProc_spec p u.1 x).result fx
    exact ⟨fun _ => h.record, h.wellFormed⟩

/-! ### Every command -/

/-- A command reads and writes the unit it names alone, and keeps it as `UnitKept` says. -/
theorem exec_acts (i : Instr) : Acts i.unit (UnitKept i.isSetp i.unit) (exec i) := by
  cases i with
  | resetTank sr => exact acts_resetTank sr
  | resetBiquad sr => exact acts_resetBiquad sr
  | resetFdb sr => exact acts_resetFdb sr
  | resetLfo sr => exact acts_resetLfo sr
  | resetOnepole sr => exact acts_resetOnepole sr
  | resetSdelay sr => exact acts_resetSdelay sr
  | resetApf sr => exact acts_resetApf sr
  | resetNapf sr => exact acts_resetNapf sr
  | resetFilter sr => exact acts_resetFilter sr
  | resetShelf sr => exact acts_resetShelf sr
  | ploadTank => exact acts_performed .tank (fun x => (x.1, x.1.record)) fun _ _ => ⟨fun _ => rfl, id⟩
  | ploadBiquad => exact acts_performed .biquad (fun x => (x.1, x.1.record)) fun _ _ => ⟨fun _ => rfl, id⟩
  | ploadLfo => exact acts_performed .lfo (fun x => (x.1, x.1.record)) fun _ _ => ⟨fun _ => rfl, id⟩
  | ploadOnepole => exact acts_performed .onepole (fun x => (x.1, x.1.record)) fun _ _ => ⟨fun _ => rfl, id⟩
  | ploadSdelay => exact acts_performed .sdelay (fun x => (x.1, x.1.record)) fun _ _ => ⟨fun _ => rfl, id⟩
  | ploadApf => exact acts_performed .apf (fun x => (x.1, x.1.record)) fun _ _ => ⟨fun _ => rfl, id⟩
  | ploadNapf => exact acts_performed .napf (fun x => (x.1, x.1.record)) fun _ _ => ⟨fun _ => rfl, id⟩
  | ploadFilter => exact acts_performed .filter (fun x => (x.1, x.1.record)) fun _ _ => ⟨fun _ => rfl, id⟩
  | ploadShelf => exact acts_performed .shelf (fun x => (x.1, x.1.record)) fun _ _ => ⟨fun _ => rfl, id⟩
  | pstageTank sel v =>
    exact acts_updateOrIllegal .tank (fun x => x.2.stage? sel v) (fun x r => (x.1, r)) UnitKept.refl
      fun _ _ _ => ⟨fun _ => rfl, id⟩
  | pstageBiquad sel v =>
    exact acts_updateOrIllegal .biquad (fun x => x.2.stage? sel v) (fun x r => (x.1, r)) UnitKept.refl
      fun _ _ _ => ⟨fun _ => rfl, id⟩
  | pstageLfo sel v =>
    exact acts_updateOrIllegal .lfo (fun x => x.2.stage? sel v) (fun x r => (x.1, r)) UnitKept.refl
      fun _ _ _ => ⟨fun _ => rfl, id⟩
  | pstageOnepole sel v =>
    exact acts_updateOrIllegal .onepole (fun x => x.2.stage? sel v) (fun x r => (x.1, r)) UnitKept.refl
      fun _ _ _ => ⟨fun _ => rfl, id⟩
  | pstageSdelay sel v =>
    exact acts_updateOrIllegal .sdelay (fun x => x.2.stage? sel v) (fun x r => (x.1, r)) UnitKept.refl
      fun _ _ _ => ⟨fun _ => rfl, id⟩
  | pstageApf sel v =>
    exact acts_updateOrIllegal .apf (fun x => x.2.stage? sel v) (fun x r => (x.1, r)) UnitKept.refl
      fun _ _ _ => ⟨fun _ => rfl, id⟩
  | pstageNapf sel v =>
    exact acts_updateOrIllegal .napf (fun x => x.2.stage? sel v) (fun x r => (x.1, r)) UnitKept.refl
      fun _ _ _ => ⟨fun _ => rfl, id⟩
  | pstageFilter sel v =>
    exact acts_updateOrIllegal .filter (fun x => x.2.stage? sel v) (fun x r => (x.1, r)) UnitKept.refl
      fun _ _ _ => ⟨fun _ => rfl, id⟩
  | pstageShelf sel v =>
    exact acts_updateOrIllegal .shelf (fun x => x.2.stage? sel v) (fun x r => (x.1, r)) UnitKept.refl
      fun _ _ _ => ⟨fun _ => rfl, id⟩
  | setpTank => exact acts_setpTank
  | setpBiquad => exact acts_setpBiquad
  | setpLfo => exact acts_setpLfo
  | setpOnepole => exact acts_setpOnepole
  | setpSdelay => exact acts_setpSdelay
  | setpApf => exact acts_setpApf
  | setpNapf => exact acts_setpNapf
  | setpFilter => exact acts_setpFilter
  | setpShelf => exact acts_setpShelf
  | getpTank sel => exact acts_resultOrIllegal .tank (fun x => x.1.field? sel) UnitKept.refl
  | getpBiquad sel => exact acts_resultOrIllegal .biquad (fun x => x.1.field? sel) UnitKept.refl
  | getpFdb sel => exact acts_resultOrIllegal .fdb (fun x => x.field? sel) UnitKept.refl
  | getpLfo sel => exact acts_resultOrIllegal .lfo (fun x => x.1.field? sel) UnitKept.refl
  | getpOnepole sel => exact acts_resultOrIllegal .onepole (fun x => x.1.field? sel) UnitKept.refl
  | getpSdelay sel => exact acts_resultOrIllegal .sdelay (fun x => x.1.field? sel) UnitKept.refl
  | getpApf sel => exact acts_resultOrIllegal .apf (fun x => x.1.field? sel) UnitKept.refl
  | getpNapf sel => exact acts_resultOrIllegal .napf (fun x => x.1.field? sel) UnitKept.refl
  | getpFilter sel => exact acts_resultOrIllegal .filter (fun x => x.1.field? sel) UnitKept.refl
  | getpShelf sel => exact acts_resultOrIllegal .shelf (fun x => x.1.field? sel) UnitKept.refl
  | procTank x => exact acts_procTank x
  | procBiquad x => exact acts_procBiquad x
  | procOnepole x => exact acts_procOnepole x
  | procSdelay x => exact acts_procSdelay x
  | procApf x => exact acts_procApf x
  | procNapf x => exact acts_procNapf x
  | procFilter x => exact acts_procFilter x
  | procShelf x => exact acts_procShelf x
  | frameTank sel ops => exact acts_frameTank sel ops
  | frameBiquad sel ops => exact acts_frameNotHandled .biquad sel ops UnitKept.refl
  | frameFdb sel ops => exact acts_frameNotHandled .fdb sel ops UnitKept.refl
  | frameLfo sel ops => exact acts_frameNotHandled .lfo sel ops UnitKept.refl
  | frameOnepole sel ops => exact acts_frameNotHandled .onepole sel ops UnitKept.refl
  | frameSdelay sel ops => exact acts_frameNotHandled .sdelay sel ops UnitKept.refl
  | frameApf sel ops => exact acts_frameNotHandled .apf sel ops UnitKept.refl
  | frameNapf sel ops => exact acts_frameNotHandled .napf sel ops UnitKept.refl
  | frameFilter sel ops => exact acts_frameNotHandled .filter sel ops UnitKept.refl
  | frameShelf sel ops => exact acts_frameNotHandled .shelf sel ops UnitKept.refl
  | canframeTank => exact acts_read .tank (fun _ => [1#64]) UnitKept.refl
  | canframeBiquad => exact acts_read .biquad (fun _ => [0#64]) UnitKept.refl
  | canframeFdb => exact acts_read .fdb (fun _ => [0#64]) UnitKept.refl
  | canframeLfo => exact acts_read .lfo (fun _ => [0#64]) UnitKept.refl
  | canframeOnepole => exact acts_read .onepole (fun _ => [0#64]) UnitKept.refl
  | canframeSdelay => exact acts_read .sdelay (fun _ => [0#64]) UnitKept.refl
  | canframeApf => exact acts_read .apf (fun _ => [0#64]) UnitKept.refl
  | canframeNapf => exact acts_read .napf (fun _ => [0#64]) UnitKept.refl
  | canframeFilter => exact acts_read .filter (fun _ => [0#64]) UnitKept.refl
  | canframeShelf => exact acts_read .shelf (fun _ => [0#64]) UnitKept.refl
  | bqwcBiquad k c => exact acts_bqwcBiquad k c
  | bqrcBiquad k => exact acts_resultOrIllegal .biquad (fun x => Coef.get? x.1.coef k) UnitKept.refl
  | bqgetsBiquad =>
    exact acts_procedure .biquad (fun _ x => bqStorage x.1) (fun x _ => x) (fun y => [y]) fun p x _ => UnitKept.refl p x
  | flrcFilter k => exact acts_resultOrIllegal .filter (fun x => Coef.get? x.1.coef k) UnitKept.refl
  | createFdb n => exact acts_createFdb n
  | createSdelay sr ms => exact acts_createSdelay sr ms
  | createApf sr ms => exact acts_createApf sr ms
  | createNapf sr mo mi => exact acts_createNapf sr mo mi
  | writeFdb x => exact acts_writeFdb x
  | writeSdelay x => exact acts_writeSdelay x
  | readiFdb d => exact acts_readiFdb d
  | readfFdb d => exact acts_readfFdb d
  | setiFdb v => exact acts_setiFdb v
  | sdreadSdelay => exact acts_readSdelay sdRead
  | sdreadtSdelay ms => exact acts_readSdelay fun d => sdReadT d ms
  | sdreadpSdelay pct => exact acts_readSdelay fun d => sdReadP d pct
  | renderLfo => exact acts_renderLfo

end Sys2Proof.Machine
end

section
/-! PROOFS. Isolation of the units, the committed records, and the invariant of the block (spec/10_state.md R30, R31, R45,
R52, R53), all read off `exec_acts`. -/

namespace Sys2Proof.Machine

/-- The inversion of `exec`: what a command can do to the state. -/
theorem exec_reply {i : Instr} {s t : State} (h : exec i s = .next t) :
    ∃ a, t = s.reply i.unit a ∧ UnitKept i.isSetp i.unit s.cfg (s.unit i.unit) a.unit := by
  obtain ⟨f, hf, ef⟩ := exec_acts i
  rw [ef] at h
  exact ⟨_, (Host.Outcome.next.inj h).symm, hf _ _ _⟩

@[simp] theorem State.reply_cfg (s : State) (u : UnitId) (a : UnitAnswer u) : (s.reply u a).cfg = s.cfg := by
  simp [State.reply]

@[simp] theorem State.reply_tx (s : State) (u : UnitId) (a : UnitAnswer u) :
    (s.reply u a).tx = s.tx ++ [a.response] := by
  simp [State.reply]

@[simp] theorem State.unit_reply_same (s : State) (u : UnitId) (a : UnitAnswer u) : (s.reply u a).unit u = a.unit := by
  simp [State.reply]

theorem State.unit_reply_of_ne {u v : UnitId} (h : v ≠ u) (s : State) (a : UnitAnswer u) :
    (s.reply u a).unit v = s.unit v := by
  simp [State.reply, State.unit_setUnit_of_ne h]

theorem sameRecords_of_units {s t : State} (h : ∀ u, SameRecord u (s.unit u) (t.unit u)) : SameRecords s t :=
  ⟨h .tank, h .biquad, h .lfo, h .onepole, h .sdelay, h .apf, h .napf, h .filter, h .shelf⟩

/-! ### The invariant, unit by unit -/

theorem Quad.forall_mem_toList {α : Type} {q : Quad α} {P : α → Prop} : (∀ a ∈ q.toList, P a) ↔ ∀ i, P (q.get i) := by
  simp [Quad.toList, Fin.forall_fin_succ, Quad.get]

section
variable (s : State)

theorem State.forall_mem_buffers {P : Fdb → Prop} : (∀ b ∈ s.buffers, P b) ↔
    P s.fdb ∧ P s.sdelay.buf ∧ P s.apf.sd.buf ∧ (P s.napf.outer.sd.buf ∧ P s.napf.inner.sd.buf) ∧ P s.tank.pre.buf ∧
      (∀ i, P (s.tank.bd.get i).buf) ∧ (∀ i, P (s.tank.napf.get i).outer.sd.buf) ∧
      ∀ i, P (s.tank.napf.get i).inner.sd.buf := by
  simp only [State.buffers, Napf.buffers, tankBuffers, List.forall_mem_cons, List.forall_mem_append, List.forall_mem_map,
    Quad.forall_mem_toList, List.not_mem_nil, false_implies, implies_true, and_true]

theorem State.forall_mem_filters {P : Filter → Prop} : (∀ f ∈ s.filters, P f) ↔
    P s.filter ∧ (P s.shelf.lo ∧ P s.shelf.hi) ∧ (P s.tank.shelfL.lo ∧ P s.tank.shelfL.hi) ∧
      P s.tank.shelfR.lo ∧ P s.tank.shelfR.hi := by
  simp only [State.filters, List.forall_mem_cons, List.not_mem_nil, false_implies, implies_true, and_true, and_assoc]

theorem State.forall_mem_shelves {P : Shelf → Prop} : (∀ e ∈ s.shelves, P e) ↔
    P s.shelf ∧ P s.tank.shelfL ∧ P s.tank.shelfR := by
  simp only [State.shelves, List.forall_mem_cons, List.not_mem_nil, false_implies, implies_true, and_true]

theorem State.forall_mem_napfs {P : Napf → Prop} : (∀ n ∈ s.napfs, P n) ↔ P s.napf ∧ ∀ i, P (s.tank.napf.get i) := by
  simp only [State.napfs, List.forall_mem_cons, Quad.forall_mem_toList]

theorem State.forall_mem_apfs {P : Apf → Prop} : (∀ a ∈ s.apfs, P a) ↔
    P s.apf ∧ (P s.napf.outer ∧ P s.napf.inner) ∧ ∀ i, P (s.tank.napf.get i).outer ∧ P (s.tank.napf.get i).inner := by
  have hnapfs := s.forall_mem_napfs (P := fun n => P n.outer ∧ P n.inner)
  simp only [State.apfs, List.forall_mem_cons, List.forall_mem_flatMap, List.not_mem_nil, false_implies,
    implies_true, and_true, hnapfs]

theorem State.forall_mem_lines {P : SDelay → Prop} : (∀ d ∈ s.tank.lines, P d) ↔
    P s.tank.pre ∧ ∀ i, P (s.tank.bd.get i) := by
  simp only [Tank.lines, List.forall_mem_cons, Quad.forall_mem_toList]

end

/-- The invariant is the well-formedness of every unit. -/
theorem State.inv_iff (s : State) : s.Inv ↔ ∀ u, UnitWellFormed s.cfg.lmaxLog2 u (s.unit u) := by
  constructor
  · rintro ⟨hbuf, hfilter, hshelf, hnapf, hwave, hline⟩
    obtain ⟨bFdb, bSdelay, bApf, ⟨bOuter, bInner⟩, bPre, bLines, bOuters, bInners⟩ := s.forall_mem_buffers.1 hbuf
    obtain ⟨fFilter, ⟨fLo, fHi⟩, ⟨fLoL, fHiL⟩, fLoR, fHiR⟩ := s.forall_mem_filters.1 hfilter
    obtain ⟨eShelf, eL, eR⟩ := s.forall_mem_shelves.1 hshelf
    obtain ⟨nNapf, nCells⟩ := s.forall_mem_napfs.1 hnapf
    obtain ⟨wApf, ⟨wOuter, wInner⟩, wCells⟩ := s.forall_mem_apfs.1 hwave
    obtain ⟨tPre, tLines⟩ := s.forall_mem_lines.1 hline
    intro u
    cases u with
    | tank =>
      exact ⟨bPre, tPre,
        fun i => ⟨⟨nCells i, ⟨bOuters i, (wCells i).1⟩, ⟨bInners i, (wCells i).2⟩⟩, bLines i, tLines i⟩,
        ⟨eL, fLoL, fHiL⟩, ⟨eR, fLoR, fHiR⟩⟩
    | biquad => trivial
    | fdb => exact bFdb
    | lfo => trivial
    | onepole => trivial
    | sdelay => exact bSdelay
    | apf => exact ⟨bApf, wApf⟩
    | napf => exact ⟨nNapf, ⟨bOuter, wOuter⟩, ⟨bInner, wInner⟩⟩
    | filter => exact fFilter
    | shelf => exact ⟨eShelf, fLo, fHi⟩
  · intro h
    have tank : s.tank.WellFormed s.cfg.lmaxLog2 := h .tank
    have apf : s.apf.WellFormed s.cfg.lmaxLog2 := h .apf
    have napf : s.napf.WellFormed s.cfg.lmaxLog2 := h .napf
    have shelf : s.shelf.WellFormed := h .shelf
    have cells := fun i => (tank.branches i).cell
    exact {
      buffers := s.forall_mem_buffers.2 ⟨h .fdb, h .sdelay, apf.buffer, ⟨napf.outer.buffer, napf.inner.buffer⟩,
        tank.preBuffer, fun i => (tank.branches i).buffer, fun i => (cells i).outer.buffer,
        fun i => (cells i).inner.buffer⟩
      filters := s.forall_mem_filters.2 ⟨h .filter, ⟨shelf.low, shelf.high⟩, ⟨tank.shelfL.low, tank.shelfL.high⟩,
        tank.shelfR.low, tank.shelfR.high⟩
      shelves := s.forall_mem_shelves.2 ⟨shelf.algorithms, tank.shelfL.algorithms, tank.shelfR.algorithms⟩
      napfs := s.forall_mem_napfs.2 ⟨napf.settings, fun i => (cells i).settings⟩
      waveforms := s.forall_mem_apfs.2 ⟨apf.waveform, ⟨napf.outer.waveform, napf.inner.waveform⟩,
        fun i => ⟨(cells i).outer.waveform, (cells i).inner.waveform⟩⟩
      tankLines := s.forall_mem_lines.2 ⟨tank.preTruncates, fun i => (tank.branches i).truncates⟩ }

end Sys2Proof.Machine

open Sys2Proof Sys2Proof.Machine

/-- Settles O11: the state after a command is the state before it with another value in the unit named, and an answer. -/
theorem unitsAreIsolated : Obligations.UnitsAreIsolated := by
  intro i s t u h hu
  obtain ⟨a, rfl, -⟩ := exec_reply h
  exact (sameUnit_iff u _ _).2 (State.unit_reply_of_ne hu s a)

/-- Settles O12: what a command leaves and answers is one function of the parameters, the counter and the unit named. -/
theorem answersDependOnTheirUnit : Obligations.AnswersDependOnTheirUnit := by
  intro i s s' t t' hu hcfg hdraws h h'
  obtain ⟨f, -, ef⟩ := exec_acts i
  rw [ef] at h h'
  rw [(sameUnit_iff _ _ _).1 hu, hcfg, hdraws] at h'
  obtain rfl := Host.Outcome.next.inj h
  obtain rfl := Host.Outcome.next.inj h'
  exact ⟨(sameUnit_iff _ _ _).2 (by simp), _, State.reply_tx _ _ _, State.reply_tx _ _ _⟩

/-- Settles O13: a command other than SETP keeps the record of the unit named, and the other units with theirs. -/
theorem recordsChangeOnlyBySetp : Obligations.RecordsChangeOnlyBySetp := by
  intro i s t hi h
  obtain ⟨a, rfl, hkept⟩ := exec_reply h
  refine sameRecords_of_units fun u => ?_
  by_cases hu : u = i.unit
  · subst hu
    rw [State.unit_reply_same]
    exact hkept.record hi
  · rw [State.unit_reply_of_ne hu]
    exact SameRecord.refl u _

namespace Sys2Proof.Machine

/-- Every command keeps the block well formed. -/
theorem exec_inv {i : Instr} {s t : State} (hs : s.Inv) (h : exec i s = .next t) : t.Inv := by
  obtain ⟨a, rfl, hkept⟩ := exec_reply h
  rw [State.inv_iff] at hs ⊢
  rw [State.reply_cfg]
  intro u
  by_cases hu : u = i.unit
  · subst hu
    rw [State.unit_reply_same]
    exact hkept.wellFormed (hs _)
  · rw [State.unit_reply_of_ne hu]
    exact hs u

theorem State.Inv.setRx {s : State} (hs : s.Inv) (bs : List Byte) : (s.setRx bs).Inv := by
  rw [State.inv_iff] at hs ⊢
  simpa using hs

theorem State.Inv.answer {s : State} (hs : s.Inv) (n : Nat) (r : Response) : (s.answer n r).Inv := by
  rw [State.inv_iff] at hs ⊢
  simpa using hs

end Sys2Proof.Machine

open Sys2Proof Sys2Proof.Machine

/-- Settles O16: a step waits, refuses a request that is no command, or runs a command, which keeps its unit well formed
and the other units as they are. -/
theorem invKept : Obligations.InvKept := by
  intro s t hs h
  unfold step at h
  split at h
  · exact Host.Outcome.next.inj h ▸ hs
  · exact exec_inv (hs.setRx _) h
  · rw [illegal_eq] at h
    exact Host.Outcome.next.inj h ▸ (hs.setRx _).answer _ _
end

section
/-! PROOFS. GETP (spec/40_common.md R172): the numbered fields of a unit as a list, and reading it by SEL. -/

namespace Sys2Proof.Machine

/-- A result word or ILLEGAL, by the entries of a list. -/
theorem readsFields_of_field? {s : State} {fields : List Word64} {f : BitVec 8 → Option Word64}
    (h : ∀ sel : BitVec 8, f sel = fields[sel.toNat]?) : ReadsFields s fields fun sel => resultOrIllegal s (f sel) :=
  fun sel => by
    dsimp only
    rw [h sel]
    exact ⟨fun hlt => by rw [List.getElem?_eq_getElem hlt, resultOrIllegal_some],
      fun hle => by rw [List.getElem?_eq_none hle, resultOrIllegal_none]⟩

theorem Tank.field?_eq (t : Tank) (sel : BitVec 8) : t.field? sel =
    [t.record.density.code, t.record.apfDelayMaxMSec, t.record.apfDelayWeightPct, t.record.fixedDelayMaxMSec,
      t.record.fixedDelayWeightPct, t.record.preDelayTimeMSec, t.record.lpfG, t.record.kRT, t.record.lowShelfFc,
      t.record.lowShelfBoostCutDb, t.record.highShelfFc, t.record.highShelfBoostCutDb, t.record.wetLevelDb,
      t.record.dryLevelDb, BitVec.ofNat 64 t.pre.buf.len, BitVec.ofNat 64 t.pre.buf.mask][sel.toNat]? := by
  unfold Tank.field?
  match sel.toNat with
  | 0 | 1 | 2 | 3 | 4 | 5 | 6 | 7 | 8 | 9 | 10 | 11 | 12 | 13 | 14 | 15 | _ + 16 => rfl

theorem Biquad.field?_eq (q : Biquad) (sel : BitVec 8) : q.field? sel = [q.record.algorithm.code][sel.toNat]? := by
  unfold Biquad.field?
  match sel.toNat with
  | 0 | _ + 1 => rfl

theorem Fdb.field?_eq (b : Fdb) (sel : BitVec 8) : b.field? sel =
    [BitVec.ofNat 64 b.len, BitVec.ofNat 64 b.mask, BitVec.ofNat 64 b.w, if b.interp then 1#64 else 0#64,
      if b.alloc then 1#64 else 0#64][sel.toNat]? := by
  unfold Fdb.field?
  match sel.toNat with
  | 0 | 1 | 2 | 3 | 4 | _ + 5 => rfl

theorem Lfo.field?_eq (o : Lfo) (sel : BitVec 8) : o.field? sel =
    [o.record.waveform.code, o.record.frequencyHz][sel.toNat]? := by
  unfold Lfo.field?
  match sel.toNat with
  | 0 | 1 | _ + 2 => rfl

theorem OnePole.field?_eq (h : OnePole) (sel : BitVec 8) : h.field? sel = [h.record.g][sel.toNat]? := by
  unfold OnePole.field?
  match sel.toNat with
  | 0 | _ + 1 => rfl

theorem SDelay.field?_eq (d : SDelay) (sel : BitVec 8) : d.field? sel =
    [d.record.delayTimeMSec, if d.record.interpolate then 1#64 else 0#64, d.delaySamples, BitVec.ofNat 64 d.buf.len,
      d.spms][sel.toNat]? := by
  unfold SDelay.field?
  match sel.toNat with
  | 0 | 1 | 2 | 3 | 4 | _ + 5 => rfl

theorem Apf.field?_eq (a : Apf) (sel : BitVec 8) : a.field? sel =
    [a.record.delayTimeMSec, a.record.apfG, if a.record.enableLPF then 1#64 else 0#64, a.record.lpfG,
      if a.record.interpolate then 1#64 else 0#64, if a.record.enableLFO then 1#64 else 0#64, a.record.lfoRateHz,
      a.record.lfoDepth, a.record.lfoMaxModMSec][sel.toNat]? := by
  unfold Apf.field?
  match sel.toNat with
  | 0 | 1 | 2 | 3 | 4 | 5 | 6 | 7 | 8 | _ + 9 => rfl

theorem Napf.field?_eq (n : Napf) (sel : BitVec 8) : n.field? sel =
    [n.record.outerDelayMSec, n.record.innerDelayMSec, n.record.outerG, n.record.innerG,
      if n.record.enableLFO then 1#64 else 0#64, n.record.lfoRateHz, n.record.lfoDepth,
      n.record.lfoMaxModMSec][sel.toNat]? := by
  unfold Napf.field?
  match sel.toNat with
  | 0 | 1 | 2 | 3 | 4 | 5 | 6 | 7 | _ + 8 => rfl

theorem Filter.field?_eq (f : Filter) (sel : BitVec 8) : f.field? sel =
    [f.record.algorithm.code, f.record.fc, f.record.q, f.record.boostCutDb][sel.toNat]? := by
  unfold Filter.field?
  match sel.toNat with
  | 0 | 1 | 2 | 3 | _ + 4 => rfl

theorem Shelf.field?_eq (e : Shelf) (sel : BitVec 8) : e.field? sel =
    [e.record.lowFc, e.record.lowBoostCutDb, e.record.highFc, e.record.highBoostCutDb][sel.toNat]? := by
  unfold Shelf.field?
  match sel.toNat with
  | 0 | 1 | 2 | 3 | _ + 4 => rfl

end Sys2Proof.Machine

open Sys2Proof Sys2Proof.Machine

/-- Settles O37: GETP is `resultOrIllegal` of the unit's fields, which are the entries of a list. -/
theorem getpReadsField : Obligations.GetpReadsField :=
  ⟨fun s => ⟨readsFields_of_field? s.tank.field?_eq, readsFields_of_field? s.biquad.field?_eq,
      readsFields_of_field? s.fdb.field?_eq, readsFields_of_field? s.lfo.field?_eq,
      readsFields_of_field? s.onepole.field?_eq, readsFields_of_field? s.sdelay.field?_eq,
      readsFields_of_field? s.apf.field?_eq, readsFields_of_field? s.napf.field?_eq,
      readsFields_of_field? s.filter.field?_eq, readsFields_of_field? s.shelf.field?_eq⟩,
    ⟨rfl, rfl⟩, ⟨rfl, rfl, rfl, rfl⟩, ⟨rfl, rfl, rfl⟩, rfl, rfl⟩
end

section
/-! PROOFS. The power-on state (spec/10_state.md R33 to R41, R60, R61). -/

namespace Sys2Proof.Machine

/-! ### It is well formed -/

theorem Fdb.powerOn_ok (l : Nat) : Fdb.powerOn.Ok l := ⟨⟨0, Nat.zero_le l, rfl⟩, rfl, by decide, rfl⟩

theorem Filter.powerOn_ok (k : ShelfKind) (n : Nat) : (Filter.powerOn k n).Ok :=
  ⟨rfl, rfl, (by decide : F64.le F64.q0707 F64.zero = false)⟩

theorem Shelf.powerOn_wellFormed (n : Nat) : (Shelf.powerOn n).WellFormed :=
  ⟨⟨rfl, rfl⟩, Filter.powerOn_ok _ _, Filter.powerOn_ok _ _⟩

theorem Apf.powerOn_wellFormed (l : Nat) : Apf.powerOn.WellFormed l := ⟨Fdb.powerOn_ok l, rfl⟩

theorem Napf.powerOn_wellFormed (l : Nat) : Napf.powerOn.WellFormed l :=
  ⟨⟨rfl, rfl, rfl, rfl, rfl⟩, Apf.powerOn_wellFormed l, Apf.powerOn_wellFormed l⟩

@[simp] theorem Quad.get_all {α : Type} (a : α) (i : Fin 4) : (Quad.all a).get i = a := by
  match i with
  | 0 | 1 | 2 | 3 => rfl

theorem Tank.powerOn_wellFormed (l : Nat) : Tank.powerOn.WellFormed l where
  preBuffer := Fdb.powerOn_ok l
  preTruncates := rfl
  branches i := by
    rw [Tank.powerOn, Quad.get_all, Quad.get_all]
    exact ⟨Napf.powerOn_wellFormed l, Fdb.powerOn_ok l, rfl⟩
  shelfL := Shelf.powerOn_wellFormed 0
  shelfR := Shelf.powerOn_wellFormed 128

/-! ### Its designs -/

theorem GainGives.of_zero {mu : F64} (h : GainGives F64.zero mu) : mu = F64.one := by
  obtain ⟨x, hx, hmu⟩ := h
  have hzero : F64.div? F64.zero F64.twenty = some F64.zero := by decide
  rw [hzero] at hx
  obtain rfl : x = F64.zero := hx
  rwa [PowGives, if_pos (by decide)] at hmu

/-- Without boost or cut a shelf passes its input through (44_filter_designer.md R295). -/
theorem DesignGives.passes {r : FilterRec} {sr : F64} {c : Coef} (h : DesignGives r sr c) (hr : r.boostCutDb = F64.zero) :
    c.c0 = F64.zero ∧ c.d0 = F64.one := by
  have hsub : F64.sub? F64.one F64.one = some F64.zero := by decide
  unfold DesignGives at h
  rw [hr] at h
  split at h
  · obtain ⟨mu, _, _, _, _, _, hmu, _, _, _, _, _, _, _, _, _, _, hc0, hd0⟩ := h
    rw [hmu.of_zero, hsub] at hc0
    exact ⟨hc0, hd0⟩
  · obtain ⟨mu, _, _, _, _, hmu, _, _, _, _, _, _, _, _, _, hc0, hd0⟩ := h
    rw [hmu.of_zero, hsub] at hc0
    exact ⟨hc0, hd0⟩

theorem powerOnCoef_design (k : ShelfKind) (n : Nat) :
    DesignGives (FilterRec.powerOn k) 0x40E5888000000000#64 (powerOnCoef k n) :=
  (afDesign_spec _ _).result _

/-! ### Its components -/

theorem State.reset_buffers : State.reset.buffers = List.replicate 18 Fdb.powerOn := rfl

theorem State.reset_lines : State.reset.sdelay :: State.reset.tank.lines = List.replicate 6 SDelay.powerOn := rfl

theorem State.reset_apfs : State.reset.apfs = List.replicate 11 Apf.powerOn := rfl

theorem State.reset_napfs : State.reset.napfs = List.replicate 5 Napf.powerOn := rfl

theorem State.reset_shelves : State.reset.shelves = [Shelf.powerOn 320, Shelf.powerOn 0, Shelf.powerOn 128] := rfl

theorem State.reset_filters : State.reset.filters =
    [Filter.powerOn .lowShelf 256, Filter.powerOn .lowShelf 320, Filter.powerOn .highShelf 384,
      Filter.powerOn .lowShelf 0, Filter.powerOn .highShelf 64, Filter.powerOn .lowShelf 128,
      Filter.powerOn .highShelf 192] := rfl

theorem State.exists_powerOn_of_mem_reset_filters {f : Filter} (h : f ∈ State.reset.filters) :
    ∃ k n, f = Filter.powerOn k n := by
  rw [State.reset_filters] at h
  simp only [List.mem_cons, List.not_mem_nil, or_false] at h
  rcases h with h | h | h | h | h | h | h <;> exact ⟨_, _, h⟩

theorem State.exists_powerOn_of_mem_reset_shelves {e : Shelf} (h : e ∈ State.reset.shelves) :
    ∃ n, e = Shelf.powerOn n := by
  rw [State.reset_shelves] at h
  simp only [List.mem_cons, List.not_mem_nil, or_false] at h
  rcases h with h | h | h <;> exact ⟨_, h⟩

theorem FilterRec.powerOn_eq (k : ShelfKind) : FilterRec.powerOn k =
    { algorithm := k, fc := F64.nearest 100 1, q := F64.nearest 707 1000, boostCutDb := 0 } := by
  cases k <;> decide

theorem f64_44100 : (0x40E5888000000000#64 : F64) = F64.nearest 44100 1 := by decide

end Sys2Proof.Machine

open Sys2Proof Sys2Proof.Machine

/-- Settles O17, unit by unit. -/
theorem invAtReset : Obligations.InvAtReset := by
  refine (State.inv_iff _).2 fun u => ?_
  cases u with
  | tank => exact Tank.powerOn_wellFormed _
  | biquad => trivial
  | fdb => exact Fdb.powerOn_ok _
  | lfo => trivial
  | onepole => trivial
  | sdelay => exact Fdb.powerOn_ok _
  | apf => exact Apf.powerOn_wellFormed _
  | napf => exact Napf.powerOn_wellFormed _
  | filter => exact Filter.powerOn_ok _ _
  | shelf => exact Shelf.powerOn_wellFormed _

/-- Settles O19: the two records of each unit are one value. -/
theorem stagingEqualsRecordAtReset : Obligations.StagingEqualsRecordAtReset :=
  ⟨rfl, rfl, rfl, rfl, rfl, rfl, rfl, rfl, rfl⟩

/-- Settles O20: each part of the block at its power-on value, the numerals against the nearest value of each decimal. -/
theorem powerOnState : Obligations.PowerOnState := by
  refine ⟨fun b hb => ?_, by decide, rfl, by decide, rfl, fun d hd => ?_, fun a ha => ?_, fun n hn => ?_, fun f hf => ?_,
    ⟨rfl, fun e he => ?_⟩, rfl, rfl⟩
  · rw [State.reset_buffers] at hb
    exact List.eq_of_mem_replicate hb
  · rw [State.reset_lines] at hd
    rw [List.eq_of_mem_replicate hd]
    exact ⟨rfl, rfl, rfl, rfl, rfl⟩
  · rw [State.reset_apfs] at ha
    rw [List.eq_of_mem_replicate ha]
    exact ⟨rfl, rfl, rfl, rfl⟩
  · rw [State.reset_napfs] at hn
    rw [List.eq_of_mem_replicate hn]
    decide
  · obtain ⟨k, n, rfl⟩ := State.exists_powerOn_of_mem_reset_filters hf
    have hdesign := powerOnCoef_design k n
    obtain ⟨hc0, hd0⟩ := hdesign.passes rfl
    have hrec := FilterRec.powerOn_eq k
    exact ⟨congrArg FilterRec.fc hrec, congrArg FilterRec.q hrec, rfl, f64_44100, hdesign, hc0,
      hd0.trans (by decide), rfl, rfl, rfl⟩
  · obtain ⟨n, rfl⟩ := State.exists_powerOn_of_mem_reset_shelves he
    exact ⟨rfl, rfl, rfl⟩
end

section
/-! PROOFS. The words of a delay memory: where a masked index stands, and what a word reads (spec/20_memory.md R81,
R82). -/

namespace Sys2Proof.Machine

/-- Exclusive or with a run of ones counts down from it. -/
theorem two_pow_sub_one_xor_mod (m n : Nat) : (2 ^ n - 1) ^^^ (m % 2 ^ n) = 2 ^ n - (m % 2 ^ n + 1) := by
  have hlt : m % 2 ^ n < 2 ^ n := Nat.mod_lt _ (Nat.two_pow_pos n)
  refine Nat.eq_of_testBit_eq fun i => ?_
  rw [Nat.testBit_two_pow_sub_succ hlt, Nat.testBit_xor, Nat.testBit_two_pow_sub_one, Nat.testBit_mod_two_pow]
  cases decide (i < n) <;> simp

/-- Masking is reduction modulo a power of two: a natural index keeps its low bits, and a negative one, `-(m + 1)`,
has the complement of those of `m` (20_memory.md R82). -/
theorem andMask_two_pow_sub_one (k : Int) (n : Nat) : (andMask k (2 ^ n - 1) : Int) = k % 2 ^ n := by
  cases k with
  | ofNat m =>
    rw [andMask, Nat.and_two_pow_sub_one_eq_mod]
    simp
  | negSucc m =>
    have hlt : m % 2 ^ n < 2 ^ n := Nat.mod_lt _ (Nat.two_pow_pos n)
    rw [andMask, Nat.and_comm, Nat.and_two_pow_sub_one_eq_mod, two_pow_sub_one_xor_mod,
      Int.negSucc_emod _ (by positivity), Nat.cast_sub hlt]
    push_cast
    ring

/-- The word that a well-formed buffer's mask selects is the index modulo the length. -/
theorem Fdb.Ok.andMask_eq {l : Nat} {b : Fdb} (h : b.Ok l) (k : Int) : (andMask k b.mask : Int) = k % b.len := by
  obtain ⟨n, _, hlen⟩ := h.length
  rw [h.mask, hlen, andMask_two_pow_sub_one]
  norm_cast

theorem Fdb.Ok.andMask_lt {l : Nat} {b : Fdb} (h : b.Ok l) (k : Int) : andMask k b.mask < b.len := by
  have hle := andMask_le k b.mask
  have hmask := h.mask
  have hcursor := h.cursor
  omega

theorem fdbWrite_w (b : Fdb) (x : F64) : (fdbWrite b x).w = andMask ((b.w : Int) + 1) b.mask := rfl

/-- The integer read is of the word `i + 1` before the cursor, counted modulo the length (41_delay_buffer.md R192). -/
theorem Fdb.Ok.readI_eq {l : Nat} {b : Fdb} (h : b.Ok l) (i : Int) :
    fdbReadI b i = Memory.read b.mem (((b.w : Int) - 1 - i) % b.len).toNat := by
  rw [← h.andMask_eq, Int.toNat_natCast, fdbReadI]

/-- A write advances the cursor by one word, modulo the length (41_delay_buffer.md R191). -/
theorem Fdb.Ok.write_w {l : Nat} {b : Fdb} (h : b.Ok l) (x : F64) : (fdbWrite b x).w = (b.w + 1) % b.len := by
  have hcursor := h.andMask_eq ((b.w : Int) + 1)
  rw [← fdbWrite_w b x] at hcursor
  exact_mod_cast hcursor

@[simp] theorem fdbCreate_mem (b : Fdb) (n : Nat) : (fdbCreate b n).mem = [] := rfl

@[simp] theorem fdbFlush_mem (b : Fdb) : (fdbFlush b).mem = [] := rfl

end Sys2Proof.Machine

open Sys2Proof.Machine

/-- Settles O31: the arithmetic of the mask, then of a buffer whose mask is its length less one. -/
theorem maskedIndexIsModulo : Obligations.MaskedIndexIsModulo :=
  ⟨andMask_two_pow_sub_one, fun _ _ h => ⟨fun k => ⟨h.andMask_eq k, h.andMask_lt k⟩, h.readI_eq, h.write_w⟩⟩

/-- Settles O32: the memory's two laws, and a created or flushed memory that lists no word. -/
theorem memoryReadsLastWrite : Obligations.MemoryReadsLastWrite := by
  refine ⟨fun len m i j v hwf hi => ⟨Memory.wf_write hwf hi, Memory.read_write hwf i j v⟩, fun b n i => ?_⟩
  rw [fdbCreate_mem, fdbFlush_mem, Memory.read_nil]
  exact ⟨rfl, rfl⟩
end

section
/-! PROOFS. Requests and their bytes (spec/30_encoding.md R110): a request stands in the bytes as its command word and NOPS
operand words, and nothing is taken from fewer bytes. -/

namespace Sys2Proof

/-! ### Bytes of a request -/

theorem cmdNops_lt (c : Word32) : cmdNops c < 256 := Nat.mod_lt _ (by decide)

theorem Request.bytes_length (r : Request) : r.bytes.length = 4 + 8 * r.ops.length := by
  rw [Request.bytes, List.length_append, bytesOfNat_length, flatMap_bytes_length]

/-- A request is taken back from the bytes it is sent as, whatever bytes follow. -/
theorem takeRequest_bytes_append {r : Request} (hn : r.ops.length = cmdNops r.cmd) (rest : List Byte) :
    takeRequest (r.bytes ++ rest) = some (r, rest) := by
  rw [takeRequest, Request.bytes, List.append_assoc, takeBytes_append (bytesOfNat_length _ _)]
  simp only [ofNat_natOfBytes_cmd, ← hn, takeOps_append]

/-- What is taken from the bytes stands at their front as it is sent. -/
theorem takeRequest_some {bs rest : List Byte} {r : Request} (h : takeRequest bs = some (r, rest)) :
    bs = r.bytes ++ rest ∧ r.ops.length = cmdNops r.cmd := by
  unfold takeRequest at h
  split at h
  · cases h
  next c r1 hc =>
  split at h
  · cases h
  next ops r2 ho =>
  simp only [Option.some.injEq, Prod.mk.injEq] at h
  obtain ⟨rfl, rfl⟩ := h
  obtain ⟨rfl, hlen⟩ := takeBytes_some hc
  obtain ⟨rfl, hops⟩ := takeOps_some ho
  have hlt : natOfBytes c < 2 ^ 32 := by simpa [hlen] using natOfBytes_lt c
  have hcmd : bytesOfNat 4 (BitVec.ofNat 32 (natOfBytes c)).toNat = c := by
    rw [BitVec.toNat_ofNat, Nat.mod_eq_of_lt hlt, ← hlen, bytesOfNat_natOfBytes]
  exact ⟨by rw [Request.bytes, hcmd, List.append_assoc], hops⟩

/-- Nothing is taken from a part of a request. -/
theorem takeRequest_take_bytes {r : Request} (hn : r.ops.length = cmdNops r.cmd) {k : Nat} (hk : k < r.bytes.length) :
    takeRequest (r.bytes.take k) = none := by
  cases h : takeRequest (r.bytes.take k) with
  | none => rfl
  | some p =>
    obtain ⟨r', rest⟩ := p
    obtain ⟨hbytes, hn'⟩ := takeRequest_some h
    have hsplit : r.bytes ++ [] = r'.bytes ++ (rest ++ r.bytes.drop k) := by
      rw [← List.append_assoc, ← hbytes, List.take_append_drop, List.append_nil]
    have htake := takeRequest_bytes_append hn []
    rw [hsplit, takeRequest_bytes_append hn'] at htake
    simp only [Option.some.injEq, Prod.mk.injEq, List.append_eq_nil_iff, List.drop_eq_nil_iff] at htake
    omega

end Sys2Proof

open Sys2Proof

/-- Settles O5: taking a request back is the inverse of sending it, and a part of a request that held a whole one would hold
the same one with bytes to spare. -/
theorem requestsAreFramedByNops : Obligations.RequestsAreFramedByNops := fun r rest hn =>
  ⟨by rw [r.bytes_length, hn], takeRequest_bytes_append hn rest, fun _ => takeRequest_take_bytes hn⟩
end

section
/-! PROOFS. The opcode table as data (spec/30_encoding.md R120, R121): the formats, the format of each legal pair, and the
commands that a format reads. -/

namespace Sys2Proof

/-! ### Formats -/

/-- A format with the commands it makes of SEL and the operands; KD has one, two or three operands, and SETI's KS uses one
bit of SEL (R121). -/
inductive Form where
  | k (i : Instr)
  | ks (f : BitVec 8 → Instr)
  | flag (f : Bool → Instr)
  | kd1 (f : Word64 → Instr)
  | kd2 (f : Word64 → Word64 → Instr)
  | kd3 (f : Word64 → Word64 → Word64 → Instr)
  | ksd (f : BitVec 8 → Word64 → Instr)
  | kf (f : BitVec 8 → List Word64 → Instr)

/-- The decoder of a format. -/
def Form.decode : Form → Request → Except Reject Instr
  | .k i => formK i
  | .ks f => formKS f
  | .flag f => formFlag f
  | .kd1 f => formKD1 f
  | .kd2 f => formKD2 f
  | .kd3 f => formKD3 f
  | .ksd f => formKSD f
  | .kf f => formKF f

/-- `F.Makes sel ops i`: SEL `sel` and operands `ops` are legal in format `F` and make the command `i`. -/
inductive Form.Makes : Form → BitVec 8 → List Word64 → Instr → Prop where
  | k (i : Instr) : Makes (.k i) 0 [] i
  | ks (f : BitVec 8 → Instr) (sel : BitVec 8) : Makes (.ks f) sel [] (f sel)
  | flag (f : Bool → Instr) (v : Bool) : Makes (.flag f) (if v then 1 else 0) [] (f v)
  | kd1 (f : Word64 → Instr) (a : Word64) : Makes (.kd1 f) 0 [a] (f a)
  | kd2 (f : Word64 → Word64 → Instr) (a b : Word64) : Makes (.kd2 f) 0 [a, b] (f a b)
  | kd3 (f : Word64 → Word64 → Word64 → Instr) (a b c : Word64) : Makes (.kd3 f) 0 [a, b, c] (f a b c)
  | ksd (f : BitVec 8 → Word64 → Instr) (sel : BitVec 8) (a : Word64) : Makes (.ksd f) sel [a] (f sel a)
  | kf (f : BitVec 8 → List Word64 → Instr) (sel : BitVec 8) (ops : List Word64) : Makes (.kf f) sel ops (f sel ops)

/-- SEL of SETI is a flag exactly where its upper bits are zero. -/
theorem exists_flag_iff (sel : BitVec 8) : sel.toNat < 2 ↔ ∃ v : Bool, sel = if v then 1 else 0 := by
  revert sel
  decide

theorem flag_toNat_eq_one (v : Bool) : decide ((if v then 1 else 0 : BitVec 8).toNat = 1) = v := by
  cases v <;> rfl

/-- The decoder of a format reads exactly what the format makes. -/
theorem Form.decode_eq_ok_iff {F : Form} {r : Request} {i : Instr} :
    F.decode r = .ok i ↔ F.Makes (cmdSel r.cmd) r.ops i := by
  obtain ⟨cmd, ops⟩ := r
  constructor
  · intro h
    cases F <;> simp only [Form.decode, formK, formKS, formFlag, formKD1, formKD2, formKD3, formKSD, formKF] at h
    case k | kd1 | kd2 | kd3 =>
      split at h
      next hsel =>
        split at h
        next => cases h; rw [hsel]; constructor
        next => cases h
      next => cases h
    case flag =>
      split at h
      next hsel =>
        split at h
        next =>
          cases h
          obtain ⟨v, hv⟩ := (exists_flag_iff _).1 hsel
          rw [hv, flag_toNat_eq_one]
          constructor
        next => cases h
      next => cases h
    case ks | ksd =>
      split at h
      next => cases h; constructor
      next => cases h
    case kf => cases h; constructor
  · intro h
    generalize hsel : cmdSel cmd = sel at h
    cases h <;> simp only [Form.decode, formK, formKS, formFlag, formKD1, formKD2, formKD3, formKSD, formKF, hsel,
      if_true, flag_toNat_eq_one, (exists_flag_iff _).2 ⟨_, rfl⟩]

/-! ### The table -/

/-- The format of a legal pair (R120). -/
def rowForm : OpCode → UnitId → Option Form
  | .reset, .tank => some (.kd1 .resetTank)
  | .reset, .biquad => some (.kd1 .resetBiquad)
  | .reset, .fdb => some (.kd1 .resetFdb)
  | .reset, .lfo => some (.kd1 .resetLfo)
  | .reset, .onepole => some (.kd1 .resetOnepole)
  | .reset, .sdelay => some (.kd1 .resetSdelay)
  | .reset, .apf => some (.kd1 .resetApf)
  | .reset, .napf => some (.kd1 .resetNapf)
  | .reset, .filter => some (.kd1 .resetFilter)
  | .reset, .shelf => some (.kd1 .resetShelf)
  | .pload, .tank => some (.k .ploadTank)
  | .pload, .biquad => some (.k .ploadBiquad)
  | .pload, .lfo => some (.k .ploadLfo)
  | .pload, .onepole => some (.k .ploadOnepole)
  | .pload, .sdelay => some (.k .ploadSdelay)
  | .pload, .apf => some (.k .ploadApf)
  | .pload, .napf => some (.k .ploadNapf)
  | .pload, .filter => some (.k .ploadFilter)
  | .pload, .shelf => some (.k .ploadShelf)
  | .pstage, .tank => some (.ksd .pstageTank)
  | .pstage, .biquad => some (.ksd .pstageBiquad)
  | .pstage, .lfo => some (.ksd .pstageLfo)
  | .pstage, .onepole => some (.ksd .pstageOnepole)
  | .pstage, .sdelay => some (.ksd .pstageSdelay)
  | .pstage, .apf => some (.ksd .pstageApf)
  | .pstage, .napf => some (.ksd .pstageNapf)
  | .pstage, .filter => some (.ksd .pstageFilter)
  | .pstage, .shelf => some (.ksd .pstageShelf)
  | .setp, .tank => some (.k .setpTank)
  | .setp, .biquad => some (.k .setpBiquad)
  | .setp, .lfo => some (.k .setpLfo)
  | .setp, .onepole => some (.k .setpOnepole)
  | .setp, .sdelay => some (.k .setpSdelay)
  | .setp, .apf => some (.k .setpApf)
  | .setp, .napf => some (.k .setpNapf)
  | .setp, .filter => some (.k .setpFilter)
  | .setp, .shelf => some (.k .setpShelf)
  | .getp, .tank => some (.ks .getpTank)
  | .getp, .biquad => some (.ks .getpBiquad)
  | .getp, .fdb => some (.ks .getpFdb)
  | .getp, .lfo => some (.ks .getpLfo)
  | .getp, .onepole => some (.ks .getpOnepole)
  | .getp, .sdelay => some (.ks .getpSdelay)
  | .getp, .apf => some (.ks .getpApf)
  | .getp, .napf => some (.ks .getpNapf)
  | .getp, .filter => some (.ks .getpFilter)
  | .getp, .shelf => some (.ks .getpShelf)
  | .proc, .tank => some (.kd1 .procTank)
  | .proc, .biquad => some (.kd1 .procBiquad)
  | .proc, .onepole => some (.kd1 .procOnepole)
  | .proc, .sdelay => some (.kd1 .procSdelay)
  | .proc, .apf => some (.kd1 .procApf)
  | .proc, .napf => some (.kd1 .procNapf)
  | .proc, .filter => some (.kd1 .procFilter)
  | .proc, .shelf => some (.kd1 .procShelf)
  | .frame, .tank => some (.kf .frameTank)
  | .frame, .biquad => some (.kf .frameBiquad)
  | .frame, .fdb => some (.kf .frameFdb)
  | .frame, .lfo => some (.kf .frameLfo)
  | .frame, .onepole => some (.kf .frameOnepole)
  | .frame, .sdelay => some (.kf .frameSdelay)
  | .frame, .apf => some (.kf .frameApf)
  | .frame, .napf => some (.kf .frameNapf)
  | .frame, .filter => some (.kf .frameFilter)
  | .frame, .shelf => some (.kf .frameShelf)
  | .canframe, .tank => some (.k .canframeTank)
  | .canframe, .biquad => some (.k .canframeBiquad)
  | .canframe, .fdb => some (.k .canframeFdb)
  | .canframe, .lfo => some (.k .canframeLfo)
  | .canframe, .onepole => some (.k .canframeOnepole)
  | .canframe, .sdelay => some (.k .canframeSdelay)
  | .canframe, .apf => some (.k .canframeApf)
  | .canframe, .napf => some (.k .canframeNapf)
  | .canframe, .filter => some (.k .canframeFilter)
  | .canframe, .shelf => some (.k .canframeShelf)
  | .bqwc, .biquad => some (.ksd .bqwcBiquad)
  | .bqrc, .biquad => some (.ks .bqrcBiquad)
  | .bqgets, .biquad => some (.k .bqgetsBiquad)
  | .flrc, .filter => some (.ks .flrcFilter)
  | .create, .fdb => some (.kd1 .createFdb)
  | .create, .sdelay => some (.kd2 .createSdelay)
  | .create, .apf => some (.kd2 .createApf)
  | .create, .napf => some (.kd3 .createNapf)
  | .write, .fdb => some (.kd1 .writeFdb)
  | .write, .sdelay => some (.kd1 .writeSdelay)
  | .readi, .fdb => some (.kd1 .readiFdb)
  | .readf, .fdb => some (.kd1 .readfFdb)
  | .seti, .fdb => some (.flag .setiFdb)
  | .sdread, .sdelay => some (.k .sdreadSdelay)
  | .sdreadt, .sdelay => some (.kd1 .sdreadtSdelay)
  | .sdreadp, .sdelay => some (.kd1 .sdreadpSdelay)
  | .render, .lfo => some (.k .renderLfo)
  | _, _ => none

theorem decodePair_eq (op : OpCode) (u : UnitId) (r : Request) :
    decodePair op u r = (rowForm op u).elim (.error .noSuchPair) fun F => F.decode r := by
  cases op <;> cases u <;> rfl

/-- One command of the format, for what all its commands share. -/
def Form.sample : Form → Instr
  | .k i => i
  | .ks f => f 0
  | .flag f => f false
  | .kd1 f => f 0
  | .kd2 f => f 0 0
  | .kd3 f => f 0 0 0
  | .ksd f => f 0 0
  | .kf f => f 0 []

/-- A command of the table is sent as the pair of its row, and has the name of its row: read off row by row. -/
theorem request_of_makes {op : OpCode} {u : UnitId} {F : Form} (hF : rowForm op u = some F) {sel : BitVec 8}
    {ops : List Word64} {i : Instr} (h : F.Makes sel ops i) :
    i.request = mkRequest op u sel ops ∧ i.mnemonic = F.sample.mnemonic := by
  cases op <;> cases u <;> cases hF <;> cases h <;> exact ⟨rfl, rfl⟩

/-- What the decoder accepts: a command that the format of some legal pair makes. -/
theorem decodeRequest_eq_ok_iff {r : Request} {i : Instr} : decodeRequest r = .ok i ↔
    ∃ op u F, rowForm op u = some F ∧ cmdOp r.cmd = opCode op ∧ cmdUnit r.cmd = unitCode u ∧
      F.Makes (cmdSel r.cmd) r.ops i := by
  constructor
  · intro h
    cases hop : opOfCode? (cmdOp r.cmd) with
    | none => simp [decodeRequest, hop] at h
    | some op =>
      cases hu : unitOfCode? (cmdUnit r.cmd) with
      | none => simp [decodeRequest, hop, hu] at h
      | some u =>
        rw [decodeRequest_of hop hu, decodePair_eq] at h
        cases hF : rowForm op u with
        | none => simp [hF] at h
        | some F =>
          rw [hF] at h
          exact ⟨op, u, F, hF, opCode_of_opOfCode? hop, unitCode_of_unitOfCode? hu, Form.decode_eq_ok_iff.1 h⟩
  · rintro ⟨op, u, F, hF, hop, hu, hmake⟩
    rw [decodeRequest_of (hop ▸ opOfCode?_opCode op) (hu ▸ unitOfCode?_unitCode u), decodePair_eq, hF]
    exact Form.decode_eq_ok_iff.2 hmake

/-! ### Commands and their requests -/

theorem Instr.wf_eq (i : Instr) : i.wf = decide (i.request.ops.length < 256) := by
  cases i <;> rfl

theorem Instr.exists_request_eq_mkRequest (i : Instr) : ∃ op u sel, i.request = mkRequest op u sel i.request.ops := by
  cases i <;> exact ⟨_, _, _, rfl⟩

/-- The request of a command announces its operand words. -/
theorem Instr.request_framed {i : Instr} (h : i.wf = true) : i.request.ops.length = cmdNops i.request.cmd := by
  rw [i.wf_eq, decide_eq_true_iff] at h
  obtain ⟨op, u, sel, hreq⟩ := i.exists_request_eq_mkRequest
  rw [hreq, mkRequest_ops, cmdNops_mkRequest op u sel h]

/-- A request that decodes is the one its command is sent as. -/
theorem request_of_decodeRequest {r : Request} {i : Instr} (hn : r.ops.length = cmdNops r.cmd)
    (h : decodeRequest r = .ok i) : i.request = r := by
  obtain ⟨op, u, F, hF, hop, hu, hmake⟩ := decodeRequest_eq_ok_iff.1 h
  rw [(request_of_makes hF hmake).1, mkRequest, ← hop, ← hu, hn, mkCmd_fields]

end Sys2Proof
end

section
/-! PROOFS. Decoding and encoding are inverse (spec/30_encoding.md R110, R111, R120), and a step runs what it decodes
(R110, 60_exceptions.md R525). -/

namespace Sys2Proof

open Laws in
/-- The request of a command decodes to the command. -/
theorem decodeRequest_request {i : Instr} (h : i.wf = true) : decodeRequest i.request = .ok i := by
  cases i with
  | resetTank sr => exact RequestForm.resetTank sr h
  | resetBiquad sr => exact RequestForm.resetBiquad sr h
  | resetFdb sr => exact RequestForm.resetFdb sr h
  | resetLfo sr => exact RequestForm.resetLfo sr h
  | resetOnepole sr => exact RequestForm.resetOnepole sr h
  | resetSdelay sr => exact RequestForm.resetSdelay sr h
  | resetApf sr => exact RequestForm.resetApf sr h
  | resetNapf sr => exact RequestForm.resetNapf sr h
  | resetFilter sr => exact RequestForm.resetFilter sr h
  | resetShelf sr => exact RequestForm.resetShelf sr h
  | ploadTank => exact RequestForm.ploadTank h
  | ploadBiquad => exact RequestForm.ploadBiquad h
  | ploadLfo => exact RequestForm.ploadLfo h
  | ploadOnepole => exact RequestForm.ploadOnepole h
  | ploadSdelay => exact RequestForm.ploadSdelay h
  | ploadApf => exact RequestForm.ploadApf h
  | ploadNapf => exact RequestForm.ploadNapf h
  | ploadFilter => exact RequestForm.ploadFilter h
  | ploadShelf => exact RequestForm.ploadShelf h
  | pstageTank sel value => exact RequestForm.pstageTank sel value h
  | pstageBiquad sel value => exact RequestForm.pstageBiquad sel value h
  | pstageLfo sel value => exact RequestForm.pstageLfo sel value h
  | pstageOnepole sel value => exact RequestForm.pstageOnepole sel value h
  | pstageSdelay sel value => exact RequestForm.pstageSdelay sel value h
  | pstageApf sel value => exact RequestForm.pstageApf sel value h
  | pstageNapf sel value => exact RequestForm.pstageNapf sel value h
  | pstageFilter sel value => exact RequestForm.pstageFilter sel value h
  | pstageShelf sel value => exact RequestForm.pstageShelf sel value h
  | setpTank => exact RequestForm.setpTank h
  | setpBiquad => exact RequestForm.setpBiquad h
  | setpLfo => exact RequestForm.setpLfo h
  | setpOnepole => exact RequestForm.setpOnepole h
  | setpSdelay => exact RequestForm.setpSdelay h
  | setpApf => exact RequestForm.setpApf h
  | setpNapf => exact RequestForm.setpNapf h
  | setpFilter => exact RequestForm.setpFilter h
  | setpShelf => exact RequestForm.setpShelf h
  | getpTank sel => exact RequestForm.getpTank sel h
  | getpBiquad sel => exact RequestForm.getpBiquad sel h
  | getpFdb sel => exact RequestForm.getpFdb sel h
  | getpLfo sel => exact RequestForm.getpLfo sel h
  | getpOnepole sel => exact RequestForm.getpOnepole sel h
  | getpSdelay sel => exact RequestForm.getpSdelay sel h
  | getpApf sel => exact RequestForm.getpApf sel h
  | getpNapf sel => exact RequestForm.getpNapf sel h
  | getpFilter sel => exact RequestForm.getpFilter sel h
  | getpShelf sel => exact RequestForm.getpShelf sel h
  | procTank x => exact RequestForm.procTank x h
  | procBiquad x => exact RequestForm.procBiquad x h
  | procOnepole x => exact RequestForm.procOnepole x h
  | procSdelay x => exact RequestForm.procSdelay x h
  | procApf x => exact RequestForm.procApf x h
  | procNapf x => exact RequestForm.procNapf x h
  | procFilter x => exact RequestForm.procFilter x h
  | procShelf x => exact RequestForm.procShelf x h
  | frameTank sel ops => exact RequestForm.frameTank sel ops h
  | frameBiquad sel ops => exact RequestForm.frameBiquad sel ops h
  | frameFdb sel ops => exact RequestForm.frameFdb sel ops h
  | frameLfo sel ops => exact RequestForm.frameLfo sel ops h
  | frameOnepole sel ops => exact RequestForm.frameOnepole sel ops h
  | frameSdelay sel ops => exact RequestForm.frameSdelay sel ops h
  | frameApf sel ops => exact RequestForm.frameApf sel ops h
  | frameNapf sel ops => exact RequestForm.frameNapf sel ops h
  | frameFilter sel ops => exact RequestForm.frameFilter sel ops h
  | frameShelf sel ops => exact RequestForm.frameShelf sel ops h
  | canframeTank => exact RequestForm.canframeTank h
  | canframeBiquad => exact RequestForm.canframeBiquad h
  | canframeFdb => exact RequestForm.canframeFdb h
  | canframeLfo => exact RequestForm.canframeLfo h
  | canframeOnepole => exact RequestForm.canframeOnepole h
  | canframeSdelay => exact RequestForm.canframeSdelay h
  | canframeApf => exact RequestForm.canframeApf h
  | canframeNapf => exact RequestForm.canframeNapf h
  | canframeFilter => exact RequestForm.canframeFilter h
  | canframeShelf => exact RequestForm.canframeShelf h
  | bqwcBiquad k c => exact RequestForm.bqwcBiquad k c h
  | bqrcBiquad k => exact RequestForm.bqrcBiquad k h
  | bqgetsBiquad => exact RequestForm.bqgetsBiquad h
  | flrcFilter k => exact RequestForm.flrcFilter k h
  | createFdb n => exact RequestForm.createFdb n h
  | createSdelay sr ms => exact RequestForm.createSdelay sr ms h
  | createApf sr ms => exact RequestForm.createApf sr ms h
  | createNapf sr msOuter msInner => exact RequestForm.createNapf sr msOuter msInner h
  | writeFdb x => exact RequestForm.writeFdb x h
  | writeSdelay x => exact RequestForm.writeSdelay x h
  | readiFdb d => exact RequestForm.readiFdb d h
  | readfFdb d => exact RequestForm.readfFdb d h
  | setiFdb v => exact RequestForm.setiFdb v h
  | sdreadSdelay => exact RequestForm.sdreadSdelay h
  | sdreadtSdelay ms => exact RequestForm.sdreadtSdelay ms h
  | sdreadpSdelay pct => exact RequestForm.sdreadpSdelay pct h
  | renderLfo => exact RequestForm.renderLfo h

/-- The whole decoder: the first request, then its command. -/
theorem decode_eq_some_iff {bs rest : List Byte} {d : Except Reject Instr} :
    decode bs = some (d, rest) ↔ ∃ r, takeRequest bs = some (r, rest) ∧ decodeRequest r = d := by
  unfold decode
  cases takeRequest bs with
  | none => simp
  | some p => obtain ⟨r, rest'⟩ := p; simp [and_comm, eq_comm]

theorem decode_encode_append {i : Instr} (h : i.wf = true) (rest : List Byte) :
    decode (encode i ++ rest) = some (.ok i, rest) :=
  decode_eq_some_iff.2 ⟨i.request, takeRequest_bytes_append (Instr.request_framed h) rest, decodeRequest_request h⟩

end Sys2Proof

open Sys2Proof Sys2Proof.Machine

/-- Settles O1: the request is taken back from its bytes, and decodes to its command. -/
theorem decodeOfEncode : Obligations.DecodeOfEncode := fun _ rest h => decode_encode_append h rest

/-- Settles O2: the bytes start with the request that was taken, and that request is the one its command is sent as. -/
theorem encodeOfDecode : Obligations.EncodeOfDecode := by
  intro i bs rest h
  obtain ⟨r, htake, hdec⟩ := decode_eq_some_iff.1 h
  obtain ⟨hbytes, hn⟩ := takeRequest_some htake
  have hreq : i.request = r := request_of_decodeRequest hn hdec
  refine ⟨?_, by rw [encode, hreq, hbytes]⟩
  rw [i.wf_eq, hreq, hn, decide_eq_true_iff]
  exact cmdNops_lt _

namespace Sys2Proof.Machine

theorem step_of_decode_ok {s : State} {i : Instr} {rest : List Byte} (h : decode s.rx = some (.ok i, rest)) :
    step s = exec i (s.setRx rest) := by
  simp only [step, h]

theorem step_of_decode_error {s : State} {e : Reject} {rest : List Byte} (h : decode s.rx = some (.error e, rest)) :
    step s = illegal (s.setRx rest) := by
  simp only [step, h]

theorem step_of_takeRequest_none {s : State} (h : takeRequest s.rx = none) : step s = .next s := by
  simp only [step, decode, h]

end Sys2Proof.Machine

/-- Settles O6: by the branches of `step`, the encoded command by O1. -/
theorem stepRunsDecodedCommand : Obligations.StepRunsDecodedCommand :=
  ⟨fun _ _ rest hwf hrx => step_of_decode_ok (hrx ▸ decode_encode_append hwf rest), fun _ _ _ => step_of_decode_ok,
    fun _ => step_of_takeRequest_none⟩

/-- Settles O4: the decoder on the seven words. -/
theorem specWordsDecode : Obligations.SpecWordsDecode :=
  ⟨rfl, rfl, rfl, rfl, rfl, rfl, rfl⟩
end

section
/-! PROOFS. The decoder accepts the words of the opcode table and no others (spec/30_encoding.md R120, R121, R123). -/

namespace Sys2Proof

/-! ### Fixed bits, field by field -/

theorem cmdOp_and (a b : Word32) : cmdOp (a &&& b) = cmdOp a &&& cmdOp b := by
  rw [cmdOp, BitVec.toNat_and, Nat.and_div_two_pow]; rfl

theorem cmdUnit_and (a b : Word32) : cmdUnit (a &&& b) = cmdUnit a &&& cmdUnit b := by
  rw [cmdUnit, BitVec.toNat_and, Nat.and_div_two_pow, Nat.and_mod_two_pow]; rfl

theorem cmdSel_and (a b : Word32) : cmdSel (a &&& b) = cmdSel a &&& cmdSel b := by
  rw [cmdSel, BitVec.toNat_and, Nat.and_div_two_pow, BitVec.ofNat_and]; rfl

theorem cmdNops_and (a b : Word32) : cmdNops (a &&& b) = cmdNops a &&& cmdNops b := by
  rw [cmdNops, BitVec.toNat_and, Nat.and_mod_two_pow]; rfl

/-- Two command words are equal where their four fields are. -/
theorem cmd_eq_iff {a b : Word32} :
    a = b ↔ cmdOp a = cmdOp b ∧ cmdUnit a = cmdUnit b ∧ cmdSel a = cmdSel b ∧ cmdNops a = cmdNops b := by
  constructor
  · rintro rfl
    exact ⟨rfl, rfl, rfl, rfl⟩
  · rintro ⟨hop, hu, hsel, hnops⟩
    rw [← mkCmd_fields a, ← mkCmd_fields b, hop, hu, hsel, hnops]

theorem cmdOp_lt (c : Word32) : cmdOp c < 256 := by
  have := c.isLt
  rw [cmdOp]
  omega

theorem cmdUnit_lt (c : Word32) : cmdUnit c < 256 := Nat.mod_lt _ (by decide)

theorem byte_and_ones {n : Nat} (h : n < 256) : n &&& 255 = n := by
  rw [show 255 = 2 ^ 8 - 1 from rfl, Nat.and_two_pow_sub_one_eq_mod, Nat.mod_eq_of_lt h]

/-! ### The row of a format -/

/-- The bits of SEL that a format fixes, all of them to zero (R121). -/
def Form.selMask : Form → BitVec 8
  | .k _ | .kd1 _ | .kd2 _ | .kd3 _ => 0xFF
  | .ks _ | .ksd _ | .kf _ => 0
  | .flag _ => 0xFE

/-- The bits of NOPS that a format fixes: none of KF's (R121). -/
def Form.nopsMask : Form → Nat
  | .kf _ => 0
  | _ => 0xFF

/-- The value of the fixed bits of NOPS: the number of operands (R121). -/
def Form.nops : Form → Nat
  | .k _ | .ks _ | .flag _ | .kf _ => 0
  | .kd1 _ | .ksd _ => 1
  | .kd2 _ => 2
  | .kd3 _ => 3

theorem Form.nopsMask_lt (F : Form) : F.nopsMask < 256 := by
  unfold Form.nopsMask
  split <;> decide

theorem Form.nops_lt (F : Form) : F.nops < 256 := by
  unfold Form.nops
  split <;> decide

theorem flag_and_mask_eq_zero_iff (sel : BitVec 8) : sel &&& 0xFE = 0 ↔ ∃ v : Bool, sel = if v then 1 else 0 := by
  revert sel
  decide

/-- A format makes a command of exactly the SEL and operands that have its fixed bits. -/
theorem Form.exists_makes_iff {F : Form} {sel : BitVec 8} {ops : List Word64} (h : ops.length < 256) :
    (∃ i, F.Makes sel ops i) ↔ sel &&& F.selMask = 0 ∧ ops.length &&& F.nopsMask = F.nops := by
  have hones : sel &&& 0xFF = sel := BitVec.and_allOnes
  constructor
  · rintro ⟨i, hmake⟩
    cases hmake
    case flag v => exact ⟨(flag_and_mask_eq_zero_iff _).2 ⟨v, rfl⟩, Nat.zero_and _⟩
    all_goals simp [Form.selMask, Form.nopsMask, Form.nops]
  · cases F <;> simp only [Form.selMask, Form.nopsMask, Form.nops, hones, byte_and_ones h,
      flag_and_mask_eq_zero_iff] <;> rintro ⟨hsel, hops⟩
    case k =>
      obtain rfl := List.length_eq_zero_iff.1 hops
      subst hsel
      exact ⟨_, .k _⟩
    case ks =>
      obtain rfl := List.length_eq_zero_iff.1 hops
      exact ⟨_, .ks _ _⟩
    case flag =>
      obtain rfl := List.length_eq_zero_iff.1 hops
      obtain ⟨v, rfl⟩ := hsel
      exact ⟨_, .flag _ _⟩
    case kd1 =>
      obtain ⟨a, rfl⟩ := List.length_eq_one_iff.1 hops
      subst hsel
      exact ⟨_, .kd1 _ _⟩
    case kd2 =>
      obtain ⟨a, b, rfl⟩ := List.length_eq_two.1 hops
      subst hsel
      exact ⟨_, .kd2 _ _ _⟩
    case kd3 =>
      obtain ⟨a, b, c, rfl⟩ := List.length_eq_three.1 hops
      subst hsel
      exact ⟨_, .kd3 _ _ _ _⟩
    case ksd =>
      obtain ⟨a, rfl⟩ := List.length_eq_one_iff.1 hops
      exact ⟨_, .ksd _ _ _⟩
    case kf => exact ⟨_, .kf _ _ _⟩

end Sys2Proof

namespace Sys2Proof.Machine

/-- The row that a format makes for a pair. -/
def Row.ofForm (op : OpCode) (u : UnitId) (F : Form) : Row where
  mnemonic := F.sample.mnemonic
  mask := mkCmd 255 255 F.selMask F.nopsMask
  pattern := mkCmd (opCode op) (unitCode u) 0 F.nops

/-- A command word has the fixed bits of a row exactly where it has its pair, and SEL and NOPS have those of its format. -/
theorem Row.has_ofForm_iff {op : OpCode} {u : UnitId} {F : Form} {c : Word32} : (Row.ofForm op u F).has c ↔
    cmdOp c = opCode op ∧ cmdUnit c = unitCode u ∧ cmdSel c &&& F.selMask = 0 ∧ cmdNops c &&& F.nopsMask = F.nops := by
  have h255 : 255 < 256 := by decide
  have hop := opCode_lt op
  have hu := unitCode_lt u
  rw [Row.has, Row.ofForm, cmd_eq_iff, cmdOp_and, cmdUnit_and, cmdSel_and, cmdNops_and,
    cmdOp_mkCmd _ h255 h255 F.nopsMask_lt, cmdUnit_mkCmd _ h255 h255 F.nopsMask_lt,
    cmdSel_mkCmd _ h255 h255 F.nopsMask_lt, cmdNops_mkCmd _ h255 h255 F.nopsMask_lt,
    cmdOp_mkCmd _ hop hu F.nops_lt, cmdUnit_mkCmd _ hop hu F.nops_lt, cmdSel_mkCmd _ hop hu F.nops_lt,
    cmdNops_mkCmd _ hop hu F.nops_lt, byte_and_ones (cmdOp_lt c), byte_and_ones (cmdUnit_lt c)]

/-- The operations, in the order of the table (R120). -/
def opCodes : List OpCode :=
  [.reset, .pload, .pstage, .setp, .getp, .proc, .frame, .canframe, .bqwc, .bqrc, .bqgets, .flrc, .create, .write, .readi,
    .readf, .seti, .sdread, .sdreadt, .sdreadp, .render]

/-- The units, in the order of their codes (R112). -/
def unitIds : List UnitId := [.tank, .biquad, .fdb, .lfo, .onepole, .sdelay, .apf, .napf, .filter, .shelf]

theorem mem_opCodes (op : OpCode) : op ∈ opCodes := by
  cases op <;> decide

theorem mem_unitIds (u : UnitId) : u ∈ unitIds := by
  cases u <;> decide

/-- The rows of the table are those of the decoder's formats. -/
theorem opcodeRows_eq : opcodeRows =
    opCodes.flatMap fun op => unitIds.filterMap fun u => (rowForm op u).map (Row.ofForm op u) := by
  decide +kernel

theorem mem_opcodeRows_iff {row : Row} :
    row ∈ opcodeRows ↔ ∃ op u F, rowForm op u = some F ∧ row = Row.ofForm op u F := by
  simp [opcodeRows_eq, mem_opCodes, mem_unitIds, eq_comm]

theorem opcodeRows_mnemonics_nodup : (opcodeRows.map Row.mnemonic).Nodup := by
  decide +kernel

/-- A row's mnemonic names it. -/
theorem eq_of_mnemonic_eq {a b : Row} (ha : a ∈ opcodeRows) (hb : b ∈ opcodeRows) (h : a.mnemonic = b.mnemonic) : a = b :=
  List.inj_on_of_nodup_map opcodeRows_mnemonics_nodup ha hb h

/-- A request that decodes has the fixed bits of its command's row. -/
theorem exists_row_of_decodeRequest {r : Request} {i : Instr} (hn : r.ops.length = cmdNops r.cmd)
    (h : decodeRequest r = .ok i) : ∃ row ∈ opcodeRows, row.has r.cmd ∧ i.mnemonic = row.mnemonic := by
  obtain ⟨op, u, F, hF, hop, hu, hmake⟩ := decodeRequest_eq_ok_iff.1 h
  have hbits := (Form.exists_makes_iff (hn ▸ cmdNops_lt r.cmd)).1 ⟨i, hmake⟩
  rw [hn] at hbits
  exact ⟨_, mem_opcodeRows_iff.2 ⟨op, u, F, hF, rfl⟩, Row.has_ofForm_iff.2 ⟨hop, hu, hbits⟩, (request_of_makes hF hmake).2⟩

/-- A request with the fixed bits of a row decodes to a command of that row. -/
theorem exists_decodeRequest_of_row {r : Request} {row : Row} (hn : r.ops.length = cmdNops r.cmd)
    (hrow : row ∈ opcodeRows) (h : row.has r.cmd) : ∃ i, decodeRequest r = .ok i ∧ i.mnemonic = row.mnemonic := by
  obtain ⟨op, u, F, hF, rfl⟩ := mem_opcodeRows_iff.1 hrow
  obtain ⟨hop, hu, hbits⟩ := Row.has_ofForm_iff.1 h
  rw [← hn] at hbits
  obtain ⟨i, hmake⟩ := (Form.exists_makes_iff (hn ▸ cmdNops_lt r.cmd)).2 hbits
  exact ⟨i, decodeRequest_eq_ok_iff.2 ⟨op, u, F, hF, hop, hu, hmake⟩, (request_of_makes hF hmake).2⟩

end Sys2Proof.Machine

open Sys2Proof Sys2Proof.Machine

/-- Settles O3: a request decodes by some row's fixed bits, and the mnemonics tell the rows apart. -/
theorem decoderAcceptsTheTable : Obligations.DecoderAcceptsTheTable := by
  intro r hn row hrow
  refine ⟨exists_decodeRequest_of_row hn hrow, ?_⟩
  rintro ⟨i, hdec, hname⟩
  obtain ⟨row', hrow', hhas, hname'⟩ := exists_row_of_decodeRequest hn hdec
  rwa [eq_of_mnemonic_eq hrow hrow' (hname.symm.trans hname')]

/-- Settles O7: a request that decoded would have the fixed bits of a row. -/
theorem unlistedRequestsRefused : Obligations.UnlistedRequestsRefused := by
  intro s r rest hrx hn hunlisted
  have htake : takeRequest s.rx = some (r, rest) := hrx ▸ takeRequest_bytes_append hn rest
  cases hdec : decodeRequest r with
  | ok i =>
    obtain ⟨row, hrow, hhas, -⟩ := exists_row_of_decodeRequest hn hdec
    exact absurd hhas (hunlisted row hrow)
  | error e =>
    rw [step_of_decode_error (decode_eq_some_iff.2 ⟨r, htake, hdec⟩), illegal_eq]
    rfl
end

section
/-! PROOFS. PSTAGE (spec/40_common.md R162, R171): a staged field as one entry of a unit's numbered fields, and the codes
of the enum and Bool fields. -/

namespace Sys2Proof.Machine

/-! ### Codes -/

/-- `n` codes: the words below `n` are the codes of a value each, and the others of none (40_common.md R162). -/
structure Codes {β : Type} (n : Nat) (ofCode? : Word64 → Option β) (code : β → Word64) : Prop where
  below : ∀ v, v.toNat < n → ∃ b, ofCode? v = some b ∧ code b = v
  beyond : ∀ v, n ≤ v.toNat → ofCode? v = none

theorem codes_of_toNat {β : Type} {n : Nat} {ofCode? : Word64 → Option β} {code : β → Word64}
    (hbelow : ∀ k, k < n → ∃ b, ofCode? (BitVec.ofNat 64 k) = some b ∧ code b = BitVec.ofNat 64 k)
    (hbeyond : ∀ v k, v.toNat = k + n → ofCode? v = none) : Codes n ofCode? code where
  below v h := by simpa using hbelow v.toNat h
  beyond v h := hbeyond v (v.toNat - n) (Nat.sub_add_cancel h).symm

theorem Density.codes : Codes 2 Density.ofCode? Density.code :=
  codes_of_toNat
    (fun
    | 0, _ => ⟨_, rfl, rfl⟩
    | 1, _ => ⟨_, rfl, rfl⟩)
    fun v k h => by rw [Density.ofCode?, h]; rfl

theorem BqForm.codes : Codes 4 BqForm.ofCode? BqForm.code :=
  codes_of_toNat
    (fun
    | 0, _ => ⟨_, rfl, rfl⟩
    | 1, _ => ⟨_, rfl, rfl⟩
    | 2, _ => ⟨_, rfl, rfl⟩
    | 3, _ => ⟨_, rfl, rfl⟩)
    fun v k h => by rw [BqForm.ofCode?, h]; rfl

theorem Waveform.codes : Codes 3 Waveform.ofCode? Waveform.code :=
  codes_of_toNat
    (fun
    | 0, _ => ⟨_, rfl, rfl⟩
    | 1, _ => ⟨_, rfl, rfl⟩
    | 2, _ => ⟨_, rfl, rfl⟩)
    fun v k h => by rw [Waveform.ofCode?, h]; rfl

theorem ShelfKind.codes : Codes 2 ShelfKind.ofCode? ShelfKind.code :=
  codes_of_toNat
    (fun
    | 0, _ => ⟨_, rfl, rfl⟩
    | 1, _ => ⟨_, rfl, rfl⟩)
    fun v k h => by rw [ShelfKind.ofCode?, h]; rfl

theorem boolCodes : Codes 2 boolOfCode? boolCode :=
  codes_of_toNat
    (fun
    | 0, _ => ⟨_, rfl, rfl⟩
    | 1, _ => ⟨_, rfl, rfl⟩)
    fun v k h => by rw [boolOfCode?, h]; rfl

/-! ### Staged fields -/

section
variable {α : Type} (u : UnitId) (n : Nat) (fields : α → List Word64) (stg : α) (j : Nat) (v : Word64)

/-- What staging field `j` of unit `u` may answer: the record in whose `fields` that one is the operand, or nothing beyond
the `n` fields or for a code out of range (40_common.md R171). -/
inductive Staged : Option α → Prop where
  | stored {r : α} (hj : j < n) (hcode : ∀ c, codeCount u j = some c → v.toNat < c)
      (hfields : fields r = (fields stg).set j v) : Staged (some r)
  | refused (h : n ≤ j ∨ ∃ c, codeCount u j = some c ∧ c ≤ v.toNat) : Staged none

variable {u n fields stg j v}

/-- A field without codes stores every operand. -/
theorem staged_word {r : α} (hj : j < n) (hcount : codeCount u j = none) (hfields : fields r = (fields stg).set j v) :
    Staged u n fields stg j v (some r) :=
  .stored hj (by simp [hcount]) hfields

/-- A field with codes stores the value of its operand, where it is the code of one. -/
theorem staged_code {β : Type} {c : Nat} {ofCode? : Word64 → Option β} {code : β → Word64} {up : β → α}
    (hcodes : Codes c ofCode? code) (hj : j < n) (hcount : codeCount u j = some c)
    (hfields : ∀ b, fields (up b) = (fields stg).set j (code b)) :
    Staged u n fields stg j v ((ofCode? v).map up) := by
  rcases Nat.lt_or_ge v.toNat c with hlt | hge
  · obtain ⟨b, hb, rfl⟩ := hcodes.below v hlt
    rw [hb]
    exact .stored hj (by simp [hcount, hlt]) (hfields b)
  · rw [hcodes.beyond v hge]
    exact .refused (.inr ⟨c, hcount, hge⟩)

theorem staged_beyond (hj : n ≤ j) : Staged u n fields stg j v none := .refused (.inl hj)

end

/-- An entry of a list with one entry replaced, both by a SEL. -/
theorem getElem?_set_sel {l : List Word64} {sel : BitVec 8} (hsel : sel.toNat < l.length) (v : Word64) (k : BitVec 8) :
    (l.set sel.toNat v)[k.toNat]? = if k = sel then some v else l[k.toNat]? := by
  by_cases hk : k = sel
  · subst hk
    simp [hsel]
  · have hne : sel.toNat ≠ k.toNat := fun h => hk (BitVec.eq_of_toNat_eq h.symm)
    simp [hk, hne]

/-- PSTAGE writes one field, as far as its answer is `Staged` and `view` shows the fields. -/
theorem stagesField_of_staged {α : Type} {s : State} {u : UnitId} {n : Nat} {view : α → BitVec 8 → Option Word64} {stg : α}
    {upd : α → State} {stage? : BitVec 8 → Word64 → Option α} {fields : α → List Word64}
    (hview : ∀ r k, view r k = (fields r)[k.toNat]?) (hlen : n ≤ (fields stg).length) (hupd : ∀ r, (upd r).draws = s.draws)
    (h : ∀ sel v, Staged u n fields stg sel.toNat v (stage? sel v)) :
    StagesField s u n view stg upd fun sel v => updateOrIllegal s ((stage? sel v).map upd) := by
  intro sel v
  cases ho : stage? sel v with
  | none =>
    obtain ⟨⟩ | hrefused := ho ▸ h sel v
    refine ⟨fun hlt hcode => ?_, fun _ => by simp only [ho, Option.map_none, updateOrIllegal_none]⟩
    obtain hge | ⟨c, hc, hge⟩ := hrefused
    · omega
    · have := hcode c hc
      omega
  | some r =>
    obtain ⟨hj, hcode, hfields⟩ | ⟨⟩ := ho ▸ h sel v
    refine ⟨fun _ _ => ⟨r, by simp only [ho, Option.map_some, updateOrIllegal_some, hupd], fun k _ => ?_⟩, ?_⟩
    · rw [hview, hview, hfields, getElem?_set_sel (by omega)]
    · rintro (hge | ⟨c, hc, hge⟩)
      · omega
      · have := hcode c hc
        omega

/-! ### The nine units -/

section
variable (s : State)

theorem stagesField_tank : StagesField s .tank 14 (fun r => Tank.field? { s.tank with record := r }) s.tankStg
    s.setTankStg (fun sel v => exec (.pstageTank sel v) s) :=
  stagesField_of_staged (fun r => Tank.field?_eq { s.tank with record := r }) (by simp) (fun _ => rfl) fun sel v => by
    unfold TankRec.stage?
    match sel.toNat with
    | 0 => exact staged_code Density.codes (by decide) rfl fun _ => rfl
    | 1 | 2 | 3 | 4 | 5 | 6 | 7 | 8 | 9 | 10 | 11 | 12 | 13 => exact staged_word (by decide) rfl rfl
    | _ + 14 => exact staged_beyond (Nat.le_add_left _ _)

theorem stagesField_biquad : StagesField s .biquad 1 (fun r => Biquad.field? { s.biquad with record := r }) s.biquadStg
    s.setBiquadStg (fun sel v => exec (.pstageBiquad sel v) s) :=
  stagesField_of_staged (fun r => Biquad.field?_eq { s.biquad with record := r }) (by simp) (fun _ => rfl) fun sel v => by
    unfold BiquadRec.stage?
    match sel.toNat with
    | 0 => exact staged_code BqForm.codes (by decide) rfl fun _ => rfl
    | _ + 1 => exact staged_beyond (Nat.le_add_left _ _)

theorem stagesField_lfo : StagesField s .lfo 2 (fun r => Lfo.field? { s.lfo with record := r }) s.lfoStg
    s.setLfoStg (fun sel v => exec (.pstageLfo sel v) s) :=
  stagesField_of_staged (fun r => Lfo.field?_eq { s.lfo with record := r }) (by simp) (fun _ => rfl) fun sel v => by
    unfold LfoRec.stage?
    match sel.toNat with
    | 0 => exact staged_code Waveform.codes (by decide) rfl fun _ => rfl
    | 1 => exact staged_word (by decide) rfl rfl
    | _ + 2 => exact staged_beyond (Nat.le_add_left _ _)

theorem stagesField_onepole : StagesField s .onepole 1 (fun r => OnePole.field? { s.onepole with record := r }) s.onepoleStg
    s.setOnepoleStg (fun sel v => exec (.pstageOnepole sel v) s) :=
  stagesField_of_staged (fun r => OnePole.field?_eq { s.onepole with record := r }) (by simp) (fun _ => rfl) fun sel v => by
    unfold OnePoleRec.stage?
    match sel.toNat with
    | 0 => exact staged_word (by decide) rfl rfl
    | _ + 1 => exact staged_beyond (Nat.le_add_left _ _)

theorem stagesField_sdelay : StagesField s .sdelay 2 (fun r => SDelay.field? { s.sdelay with record := r }) s.sdelayStg
    s.setSdelayStg (fun sel v => exec (.pstageSdelay sel v) s) :=
  stagesField_of_staged (fun r => SDelay.field?_eq { s.sdelay with record := r }) (by simp) (fun _ => rfl) fun sel v => by
    unfold SDelayRec.stage?
    match sel.toNat with
    | 1 => exact staged_code boolCodes (by decide) rfl fun _ => rfl
    | 0 => exact staged_word (by decide) rfl rfl
    | _ + 2 => exact staged_beyond (Nat.le_add_left _ _)

theorem stagesField_apf : StagesField s .apf 9 (fun r => Apf.field? { s.apf with record := r }) s.apfStg
    s.setApfStg (fun sel v => exec (.pstageApf sel v) s) :=
  stagesField_of_staged (fun r => Apf.field?_eq { s.apf with record := r }) (by simp) (fun _ => rfl) fun sel v => by
    unfold ApfRec.stage?
    match sel.toNat with
    | 2 | 4 | 5 => exact staged_code boolCodes (by decide) rfl fun _ => rfl
    | 0 | 1 | 3 | 6 | 7 | 8 => exact staged_word (by decide) rfl rfl
    | _ + 9 => exact staged_beyond (Nat.le_add_left _ _)

theorem stagesField_napf : StagesField s .napf 8 (fun r => Napf.field? { s.napf with record := r }) s.napfStg
    s.setNapfStg (fun sel v => exec (.pstageNapf sel v) s) :=
  stagesField_of_staged (fun r => Napf.field?_eq { s.napf with record := r }) (by simp) (fun _ => rfl) fun sel v => by
    unfold NapfRec.stage?
    match sel.toNat with
    | 4 => exact staged_code boolCodes (by decide) rfl fun _ => rfl
    | 0 | 1 | 2 | 3 | 5 | 6 | 7 => exact staged_word (by decide) rfl rfl
    | _ + 8 => exact staged_beyond (Nat.le_add_left _ _)

theorem stagesField_filter : StagesField s .filter 4 (fun r => Filter.field? { s.filter with record := r }) s.filterStg
    s.setFilterStg (fun sel v => exec (.pstageFilter sel v) s) :=
  stagesField_of_staged (fun r => Filter.field?_eq { s.filter with record := r }) (by simp) (fun _ => rfl) fun sel v => by
    unfold FilterRec.stage?
    match sel.toNat with
    | 0 => exact staged_code ShelfKind.codes (by decide) rfl fun _ => rfl
    | 1 | 2 | 3 => exact staged_word (by decide) rfl rfl
    | _ + 4 => exact staged_beyond (Nat.le_add_left _ _)

theorem stagesField_shelf : StagesField s .shelf 4 (fun r => Shelf.field? { s.shelf with record := r }) s.shelfStg
    s.setShelfStg (fun sel v => exec (.pstageShelf sel v) s) :=
  stagesField_of_staged (fun r => Shelf.field?_eq { s.shelf with record := r }) (by simp) (fun _ => rfl) fun sel v => by
    unfold ShelfRec.stage?
    match sel.toNat with
    | 0 | 1 | 2 | 3 => exact staged_word (by decide) rfl rfl
    | _ + 4 => exact staged_beyond (Nat.le_add_left _ _)

end

end Sys2Proof.Machine

open Sys2Proof Sys2Proof.Machine

/-- Settles O36, unit by unit. -/
theorem pstageWritesOneField : Obligations.PstageWritesOneField := fun s =>
  ⟨stagesField_tank s, stagesField_biquad s, stagesField_lfo s, stagesField_onepole s, stagesField_sdelay s,
    stagesField_apf s, stagesField_napf s, stagesField_filter s, stagesField_shelf s⟩
end

section
/-! PROOFS. The form of a FRAME (spec/30_encoding.md R113, R114, R121) and FRAME.TANK (49_reverb_tank.md R480). -/

namespace Sys2Proof.Machine

/-! ### The form of a FRAME -/

theorem frameForm?_eq_some_iff {sel : BitVec 8} {nops inCh outCh : Nat} : frameForm? sel nops = some (inCh, outCh) ↔
    (inCh = 1 ∨ inCh = 2) ∧ (outCh = 1 ∨ outCh = 2) ∧ sel.toNat = 16 * inCh + outCh ∧ nops = inCh := by
  unfold frameForm?
  simp only [Option.ite_none_right_eq_some, Option.some.injEq, Prod.mk.injEq]
  omega

/-- A SEL and NOPS that are out of range give no channels. -/
theorem frameForm?_eq_none {sel : BitVec 8} {ops : List Word64} (h : frameFormOk sel ops = false) :
    frameForm? sel ops.length = none := by
  rw [Option.eq_none_iff_forall_ne_some]
  rintro ⟨inCh, outCh⟩ hsome
  obtain ⟨hin, hout, hsel, hops⟩ := frameForm?_eq_some_iff.1 hsome
  simp [frameFormOk, ← BitVec.toNat_inj, hsel, hops] at h
  omega

/-- A frame has as many output samples as channels. -/
theorem FrameStep.length_outs {p : Params} {t t' : Tank} {inCh outCh : Nat} {i0 i1 : F32} {outs : List F32} {uf : Bool}
    (h : FrameStep p t inCh outCh i0 i1 outs t' uf) (hout : outCh = 1 ∨ outCh = 2) : outs.length = outCh := by
  obtain ⟨_, _, _, _, _, _, _, _, _, _, _, h⟩ := h
  rcases hout with rfl | rfl
  · obtain ⟨o, rfl, -⟩ := h
    rfl
  · obtain ⟨l, r, rfl, -⟩ := h
    rfl

theorem tankReady_eq_true_iff {t : Tank} : tankReady t = true ↔ ∀ b ∈ tankBuffers t, b.alloc = true :=
  List.all_eq_true

theorem all_isF32Word_iff {ops : List Word64} : ops.all isF32Word = true ↔ ∀ w ∈ ops, w.toNat < 2 ^ 32 := by
  simp [isF32Word]

end Sys2Proof.Machine

open Sys2Proof Sys2Proof.Machine

/-- Settles O52: the form is legal, so FRAME.TANK checks the operand words and runs `rtFrame`. -/
theorem frameTankRunsOneFrame : Obligations.FrameTankRunsOneFrame := by
  intro s sel ops inCh outCh hin hout hsel hops
  have hform : frameForm? sel ops.length = some (inCh, outCh) := frameForm?_eq_some_iff.2 ⟨hin, hout, hsel, hops⟩
  constructor
  · intro hwords hready
    obtain ⟨⟨outs, t⟩, uf, n, hframe, hn, hperform⟩ := perform_procedure (s := s) (fun r => s.setTank r.2)
      (fun r => r.1.map f32Word) (rtFrame_spec s.cfg s.tank inCh outCh (f32Of (ops.getD 0 0#64)) (f32Of (ops.getD 1 0#64)))
    rw [f32Of_eq, f32Of_eq] at hframe
    have hwiden : outs.map f32Word = outs.map fun o => o.setWidth 64 := List.map_congr_left fun o _ => f32Word_eq o
    refine ⟨outs, t, uf, n, hframe, hframe.length_outs hout, hn, ?_⟩
    simp only [exec, execFrameTank, hform, all_isF32Word_iff.2 hwords, tankReady_eq_true_iff.2 hready, if_true, ← hwiden]
    exact hperform
  · rintro ⟨w, hw, hge⟩
    have hwords : ops.all isF32Word = false := by
      rw [List.all_eq_false]
      exact ⟨w, hw, by simpa [isF32Word] using hge⟩
    simp only [exec, execFrameTank, hform, hwords, illegal_eq]
    rfl
end

section
/-! PROOFS. Commands whose SEL or NOPS is out of range (spec/30_encoding.md R113, R114, R121, R122). -/

namespace Sys2Proof.Machine

theorem selBelow_eq_false_iff {sel : BitVec 8} {n : Nat} : selBelow sel n = false ↔ n ≤ sel.toNat := by
  simp [selBelow]

theorem Coef.get?_eq (c : Coef) (k : BitVec 8) : c.get? k = c.slots[k.toNat]? := by
  unfold Coef.get?
  match k.toNat with
  | 0 | 1 | 2 | 3 | 4 | 5 | 6 | _ + 7 => rfl

theorem Coef.set?_eq_none {k : BitVec 8} (h : 7 ≤ k.toNat) (c : Coef) (v : F64) : c.set? k v = none := by
  obtain ⟨j, hj⟩ := Nat.exists_eq_add_of_le' h
  rw [Coef.set?, hj]
  rfl

theorem frameNotHandled_of_form {sel : BitVec 8} {ops : List Word64} (h : frameFormOk sel ops = false) (s : State) :
    frameNotHandled sel ops s = .next (s.answer s.draws { status := 4#32, results := [] }) := by
  rw [frameNotHandled, frameForm?_eq_none h, illegal_eq]

theorem execFrameTank_of_form {sel : BitVec 8} {ops : List Word64} (h : frameFormOk sel ops = false) (s : State) :
    execFrameTank sel ops s = .next (s.answer s.draws { status := 4#32, results := [] }) := by
  rw [execFrameTank, frameForm?_eq_none h, illegal_eq]

theorem execBqwcBiquad_of_index {k : BitVec 8} (h : 7 ≤ k.toNat) (c : F64) (s : State) :
    execBqwcBiquad k c s = .next (s.answer s.draws { status := 4#32, results := [] }) := by
  rw [execBqwcBiquad, Coef.set?_eq_none h, Option.map_none, updateOrIllegal_none]

/-- PSTAGE of no field. -/
theorem StagesField.refuses {α : Type} {s : State} {u : UnitId} {n : Nat} {view : α → BitVec 8 → Option Word64} {stg : α}
    {upd : α → State} {o : BitVec 8 → Word64 → Out} (h : StagesField s u n view stg upd o) {sel : BitVec 8}
    (hsel : selBelow sel n = false) (v : Word64) :
    o sel v = .next (s.answer s.draws { status := 4#32, results := [] }) :=
  (h sel v).2 (.inl (selBelow_eq_false_iff.1 hsel))

/-- A read of no field. -/
theorem ReadsFields.refuses {s : State} {fields : List Word64} {o : BitVec 8 → Out} (h : ReadsFields s fields o)
    {sel : BitVec 8} (hsel : selBelow sel fields.length = false) :
    o sel = .next (s.answer s.draws { status := 4#32, results := [] }) :=
  (h sel).2 (selBelow_eq_false_iff.1 hsel)

end Sys2Proof.Machine

open Sys2Proof Sys2Proof.Machine

/-- Settles O8: the commands with a SEL or a NOPS range are PSTAGE, GETP, the coefficient accessors and FRAME. -/
theorem formsOutOfRangeRefused : Obligations.FormsOutOfRangeRefused := by
  intro i s h
  cases i with
  | pstageTank sel v => exact (stagesField_tank s).refuses h v
  | pstageBiquad sel v => exact (stagesField_biquad s).refuses h v
  | pstageLfo sel v => exact (stagesField_lfo s).refuses h v
  | pstageOnepole sel v => exact (stagesField_onepole s).refuses h v
  | pstageSdelay sel v => exact (stagesField_sdelay s).refuses h v
  | pstageApf sel v => exact (stagesField_apf s).refuses h v
  | pstageNapf sel v => exact (stagesField_napf s).refuses h v
  | pstageFilter sel v => exact (stagesField_filter s).refuses h v
  | pstageShelf sel v => exact (stagesField_shelf s).refuses h v
  | getpTank sel => exact (readsFields_of_field? s.tank.field?_eq).refuses h
  | getpBiquad sel => exact (readsFields_of_field? s.biquad.field?_eq).refuses h
  | getpFdb sel => exact (readsFields_of_field? s.fdb.field?_eq).refuses h
  | getpLfo sel => exact (readsFields_of_field? s.lfo.field?_eq).refuses h
  | getpOnepole sel => exact (readsFields_of_field? s.onepole.field?_eq).refuses h
  | getpSdelay sel => exact (readsFields_of_field? s.sdelay.field?_eq).refuses h
  | getpApf sel => exact (readsFields_of_field? s.apf.field?_eq).refuses h
  | getpNapf sel => exact (readsFields_of_field? s.napf.field?_eq).refuses h
  | getpFilter sel => exact (readsFields_of_field? s.filter.field?_eq).refuses h
  | getpShelf sel => exact (readsFields_of_field? s.shelf.field?_eq).refuses h
  | bqwcBiquad k c => exact execBqwcBiquad_of_index (selBelow_eq_false_iff.1 h) c s
  | bqrcBiquad k => exact (readsFields_of_field? s.biquad.coef.get?_eq).refuses h
  | flrcFilter k => exact (readsFields_of_field? s.filter.coef.get?_eq).refuses h
  | frameTank sel ops => exact execFrameTank_of_form h s
  | frameBiquad sel ops | frameFdb sel ops | frameLfo sel ops | frameOnepole sel ops | frameSdelay sel ops
  | frameApf sel ops | frameNapf sel ops | frameFilter sel ops | frameShelf sel ops => exact frameNotHandled_of_form h s
  | _ => cases h
end

section
/-! PROOFS. The four outcomes (spec/60_exceptions.md R500 to R503, R511): what each answer of Machine/Ops.lean is, and that
every command is built from them. -/

namespace Sys2Proof.Machine

/-! ### Answers -/

/-- The parameters, the free-value counter and the port are the same: only units differ. -/
structure SameBesideUnits (s t : State) : Prop where
  cfg : t.cfg = s.cfg
  draws : t.draws = s.draws
  rx : t.rx = s.rx
  tx : t.tx = s.tx

/-- `o` is one of the four outcomes of R500 for a command with `n` results: performed; or refused, not ready or, where
`other` says that the command is a FRAME outside TANK, not handled. -/
def Answered (s : State) (n : Nat) (other : Bool) (o : Out) : Prop :=
  ∃ t r, o = .next t ∧ t.tx = s.tx ++ [r] ∧ t.rx = s.rx ∧ t.cfg = s.cfg ∧ s.draws ≤ t.draws ∧
    (((r.status = 1#32 ∨ r.status = 3#32) ∧ r.results.length = n) ∨
      ((r = { status := 4#32, results := [] } ∨ r = { status := 8#32, results := [] } ∨
        (r = { status := 0#32, results := [] } ∧ other = true)) ∧ t = s.answer s.draws r))

section
variable {s : State} {n : Nat} {other : Bool}

theorem answered_illegal : Answered s n other (illegal s) :=
  ⟨_, _, rfl, rfl, rfl, rfl, le_rfl, .inr ⟨.inl rfl, rfl⟩⟩

theorem answered_notReady : Answered s n other (notReady s) :=
  ⟨_, _, rfl, rfl, rfl, rfl, le_rfl, .inr ⟨.inr (.inl rfl), rfl⟩⟩

theorem answered_notHandled : Answered s n true (notHandled s) :=
  ⟨_, _, rfl, rfl, rfl, rfl, le_rfl, .inr ⟨.inr (.inr ⟨rfl, rfl⟩), rfl⟩⟩

theorem handledStatus_cases (uf : Bool) : handledStatus uf = 1#32 ∨ handledStatus uf = 3#32 := by
  cases uf
  · exact .inl rfl
  · exact .inr rfl

/-- A performed command: units changed, free values taken, and an answer with HANDLED. -/
theorem answered_handled {t : State} {k : Nat} {uf : Bool} {rs : List Word64} (ht : SameBesideUnits s t)
    (hk : s.draws ≤ k) (hn : rs.length = n) :
    Answered s n other (.next (t.answer k { status := handledStatus uf, results := rs })) :=
  ⟨_, { status := handledStatus uf, results := rs }, rfl, by simp [ht.tx], by simp [ht.rx], by simp [ht.cfg],
    by simpa using hk, .inl ⟨handledStatus_cases uf, hn⟩⟩

theorem answered_performed {t : State} {rs : List Word64} (ht : SameBesideUnits s t := by exact ⟨rfl, rfl, rfl, rfl⟩)
    (hn : rs.length = n := by rfl) : Answered s n other (performed t rs) :=
  answered_handled (uf := false) ht ht.draws.ge hn

/-- A command that runs one procedure, whatever the procedure gives. -/
theorem answered_procedure {α : Type} {m : FpM α} {P : α → Bool → Prop} {up : α → State} {rs : α → List Word64}
    (h : m.Spec P) (hup : ∀ a, SameBesideUnits s (up a) := by exact fun _ => ⟨rfl, rfl, rfl, rfl⟩)
    (hn : ∀ a uf, P a uf → (rs a).length = n := by exact fun _ _ _ => rfl) :
    Answered s n other (perform s (m >>= fun a => pure (up a, rs a))) := by
  obtain ⟨a, uf, k, hP, hk, e⟩ := perform_procedure (s := s) up rs h
  rw [e]
  exact answered_handled (hup a) hk (hn a uf hP)

theorem answered_resultOrIllegal (r : Option Word64) : Answered s 1 other (resultOrIllegal s r) := by
  cases r with
  | none => exact answered_illegal
  | some v => exact answered_performed

theorem answered_updateOrIllegal {α : Type} (r : Option α) {up : α → State}
    (hup : ∀ a, SameBesideUnits s (up a) := by exact fun _ => ⟨rfl, rfl, rfl, rfl⟩) :
    Answered s 0 other (updateOrIllegal s (r.map up)) := by
  cases r with
  | none => exact answered_illegal
  | some a => exact answered_performed (hup a) rfl

theorem answered_orIllegal {c : Bool} {o : Out} (h : c = true → Answered s n other o) :
    Answered s n other (if c then o else illegal s) := by
  cases c with
  | false => exact answered_illegal
  | true => exact h rfl

theorem answered_orNotReady {c : Bool} {o : Out} (h : c = true → Answered s n other o) :
    Answered s n other (if c then o else notReady s) := by
  cases c with
  | false => exact answered_notReady
  | true => exact h rfl

theorem answered_frameNotHandled (sel : BitVec 8) (ops : List Word64) : Answered s n true (frameNotHandled sel ops s) := by
  unfold frameNotHandled
  cases frameForm? sel ops.length with
  | none => exact answered_illegal
  | some io => exact answered_notHandled

end

/-! ### Every command -/

section
variable (s : State)

theorem answered_execResetFdb (sr : F64) : Answered s 0 false (execResetFdb sr s) :=
  answered_orIllegal fun _ => answered_performed (by split <;> exact ⟨rfl, rfl, rfl, rfl⟩) rfl

theorem answered_execReadiFdb (d : Word64) : Answered s 1 false (execReadiFdb d s) := by
  unfold execReadiFdb
  cases integerDelay? d with
  | none => exact answered_illegal
  | some i => exact answered_orNotReady fun _ => answered_performed

theorem answered_execFrameTank (sel : BitVec 8) (ops : List Word64) :
    Answered s (sel.toNat % 16) false (execFrameTank sel ops s) := by
  unfold execFrameTank
  cases hform : frameForm? sel ops.length with
  | none => exact answered_illegal
  | some io =>
    obtain ⟨inCh, outCh⟩ := io
    obtain ⟨hin, hout, hsel, -⟩ := frameForm?_eq_some_iff.1 hform
    refine answered_orIllegal fun _ => answered_orNotReady fun _ =>
      answered_procedure (rtFrame_spec _ _ _ _ _ _) (fun _ => ⟨rfl, rfl, rfl, rfl⟩) fun r uf hframe => ?_
    rw [List.length_map, hframe.length_outs hout]
    omega

theorem answered_execProcTank (x : F64) : Answered s 1 false (execProcTank x s) := by
  rw [execProcTank_eq]
  exact answered_orNotReady fun _ => answered_procedure (monoFrame_spec x _ _)

theorem answered_execResetNapf (sr : F64) : Answered s 0 false (execResetNapf sr s) := by
  refine answered_orIllegal fun h => ?_
  obtain ⟨h, hinner⟩ := Bool.and_eq_true_iff.1 h
  obtain ⟨-, houter⟩ := Bool.and_eq_true_iff.1 h
  exact answered_procedure (napfReset_spec _ _ (fits_need houter) (fits_need hinner))

theorem answered_execCreateNapf (sr mo mi : F64) : Answered s 0 false (execCreateNapf sr mo mi s) := by
  refine answered_orIllegal fun h => ?_
  obtain ⟨h, hinner⟩ := Bool.and_eq_true_iff.1 h
  obtain ⟨-, houter⟩ := Bool.and_eq_true_iff.1 h
  exact answered_procedure (napfCreate_spec _ _ _ _ (fits_need houter) (fits_need hinner))

end

/-- Every command gives one of the four outcomes. -/
theorem exec_answered (i : Instr) (s : State) : Answered s i.nres i.isOtherFrame (exec i s) := by
  cases i with
  | ploadTank | ploadBiquad | ploadLfo | ploadOnepole | ploadSdelay | ploadApf | ploadNapf | ploadFilter | ploadShelf
  | setpBiquad | setpOnepole | setiFdb | canframeTank | canframeBiquad | canframeFdb | canframeLfo | canframeOnepole
  | canframeSdelay | canframeApf | canframeNapf | canframeFilter | canframeShelf => exact answered_performed
  | getpTank | getpBiquad | getpFdb | getpLfo | getpOnepole | getpSdelay | getpApf | getpNapf | getpFilter | getpShelf
  | bqrcBiquad | flrcFilter => exact answered_resultOrIllegal _
  | pstageTank | pstageBiquad | pstageLfo | pstageOnepole | pstageSdelay | pstageApf | pstageNapf | pstageFilter
  | pstageShelf | bqwcBiquad => exact answered_updateOrIllegal _
  | frameTank sel ops => exact answered_execFrameTank s sel ops
  | frameBiquad | frameFdb | frameLfo | frameOnepole | frameSdelay | frameApf | frameNapf | frameFilter | frameShelf =>
    exact answered_frameNotHandled _ _
  | resetBiquad | resetOnepole | resetFilter | resetShelf | createFdb =>
    exact answered_orIllegal fun _ => answered_performed
  | resetFdb sr => exact answered_execResetFdb s sr
  | writeFdb | writeSdelay => exact answered_orNotReady fun _ => answered_performed
  | readiFdb d => exact answered_execReadiFdb s d
  | resetTank sr =>
    exact answered_orIllegal fun h => answered_procedure (rtReset_spec _ _ _ (Bool.and_eq_true_iff.1 h).2)
  | resetLfo sr => exact answered_orIllegal fun _ => answered_procedure (lfoReset_spec _ _)
  | resetSdelay sr => exact answered_orIllegal fun _ => answered_procedure (sdReset_keeps _ _)
  | resetApf sr => exact answered_orIllegal fun _ => answered_procedure (apfReset_keeps _ _)
  | resetNapf sr => exact answered_execResetNapf s sr
  | createSdelay sr ms =>
    exact answered_orIllegal fun h => answered_procedure (sdCreate_spec _ _ _ (fits_need (Bool.and_eq_true_iff.1 h).2))
  | createApf sr ms =>
    exact answered_orIllegal fun h => answered_procedure (apfCreate_spec _ _ _ (fits_need (Bool.and_eq_true_iff.1 h).2))
  | createNapf sr mo mi => exact answered_execCreateNapf s sr mo mi
  | setpTank => exact answered_procedure (rtSet_spec _ _ _)
  | setpLfo => exact answered_procedure (lfoSet_spec _ _)
  | setpSdelay => exact answered_procedure (sdSet_spec _ _)
  | setpApf => exact answered_procedure (apfSet_spec _ _)
  | setpNapf => exact answered_procedure (napfSet_spec _ _)
  | setpFilter => exact answered_procedure (afSet_spec _ _)
  | setpShelf => exact answered_procedure (shSet_spec _ _)
  | procTank x => exact answered_execProcTank s x
  | procBiquad x => exact answered_procedure (bqProc_spec _ _ _)
  | procOnepole x => exact answered_procedure (opProc_spec _ _ _)
  | procSdelay x => exact answered_orNotReady fun _ => answered_procedure (sdProc_spec _ _)
  | procApf x => exact answered_orNotReady fun _ => answered_procedure (apfProc_spec _ _ _)
  | procNapf x => exact answered_orNotReady fun _ => answered_procedure (napfProc_spec _ _ _)
  | procFilter x => exact answered_procedure (afProc_spec _ _ _)
  | procShelf x => exact answered_procedure (shProc_spec _ _ _)
  | bqgetsBiquad => exact answered_procedure (bqStorage_spec _)
  | readfFdb d => exact answered_orNotReady fun _ => answered_procedure (fdbReadF_spec _ _)
  | sdreadSdelay => exact answered_orNotReady fun _ => answered_procedure (sdRead_spec _)
  | sdreadtSdelay ms => exact answered_orNotReady fun _ => answered_procedure (sdReadT_spec _ _)
  | sdreadpSdelay pct => exact answered_orNotReady fun _ => answered_procedure (sdReadP_spec _ _)
  | renderLfo => exact answered_procedure (lfoRender_spec _)

end Sys2Proof.Machine

open Sys2Proof Sys2Proof.Machine

/-- Settles O9: `Answered` says it of one command at one state. -/
theorem everyCommandIsAnswered : Obligations.EveryCommandIsAnswered := exec_answered
end

section
/-! PROOFS. What a command leaves of the staging records, and when its answer can report an underflow (spec/40_common.md
R154, R175, R176; 60_exceptions.md R504), both read off one lemma about every command. -/

namespace Sys2Proof.Machine

/-- `o` ends in a state `t` and an answer. But for a command that stages, the staging records of `t` are those of `s`; but
for one that reaches a flush point, the answer is not HANDLED with UF. -/
def Confined (staging flushes : Bool) (s : State) (o : Out) : Prop :=
  ∃ t n r, o = .next (t.answer n r) ∧ t.tx = s.tx ∧ (staging = false → SameStaging s t) ∧
    (flushes = false → r.status ≠ 3#32)

theorem SameStaging.refl (s : State) : SameStaging s s := ⟨rfl, rfl, rfl, rfl, rfl, rfl, rfl, rfl, rfl⟩

/-- An answer is no staging record. -/
theorem SameStaging.answer {s t : State} (h : SameStaging s t) (n : Nat) (r : Response) : SameStaging s (t.answer n r) :=
  ⟨h.tank, h.biquad, h.lfo, h.onepole, h.sdelay, h.apf, h.napf, h.filter, h.shelf⟩

section
variable {staging flushes : Bool} {s : State}

/-- An answer that changes nothing and has any status but that of an underflow. -/
theorem confined_unchanged {n : Nat} {r : Response} (hr : r.status ≠ 3#32) :
    Confined staging flushes s (.next (s.answer n r)) :=
  ⟨s, n, r, rfl, rfl, fun _ => .refl s, fun _ => hr⟩

theorem confined_illegal : Confined staging flushes s (illegal s) := confined_unchanged (by decide)

theorem confined_notReady : Confined staging flushes s (notReady s) := confined_unchanged (by decide)

theorem confined_notHandled : Confined staging flushes s (notHandled s) := confined_unchanged (by decide)

theorem statusPerformed_ne_underflow : statusPerformed false ≠ 3#32 := by decide

theorem confined_performed {t : State} {rs : List Word64} (htx : t.tx = s.tx := by rfl)
    (ht : SameStaging s t := by exact ⟨rfl, rfl, rfl, rfl, rfl, rfl, rfl, rfl, rfl⟩) :
    Confined staging flushes s (performed t rs) :=
  ⟨t, _, _, rfl, htx, fun _ => ht, fun _ => statusPerformed_ne_underflow⟩

/-- A performed command that may change a staging record. -/
theorem confined_staged {t : State} {rs : List Word64} (htx : t.tx = s.tx := by rfl) :
    Confined true flushes s (performed t rs) :=
  ⟨t, _, _, rfl, htx, nofun, fun _ => statusPerformed_ne_underflow⟩

/-- A command that runs one procedure, which flushes nothing. -/
theorem confined_procedure {α : Type} {m : FpM α} {P : α → Prop} {up : α → State} {rs : α → List Word64} (h : m.Quiet P)
    (htx : ∀ a, (up a).tx = s.tx := by exact fun _ => rfl)
    (hup : ∀ a, SameStaging s (up a) := by exact fun _ => ⟨rfl, rfl, rfl, rfl, rfl, rfl, rfl, rfl, rfl⟩) :
    Confined staging flushes s (perform s (m >>= fun a => pure (up a, rs a))) := by
  obtain ⟨a, n, -, -, e⟩ := perform_quiet_procedure (s := s) up rs h
  exact ⟨up a, n, _, e, htx a, fun _ => hup a, fun _ => by simp⟩

/-- A command that runs one procedure, which may flush. -/
theorem confined_flushing {α : Type} {m : FpM α} {up : α → State} {rs : α → List Word64}
    (htx : ∀ a, (up a).tx = s.tx := by exact fun _ => rfl)
    (hup : ∀ a, SameStaging s (up a) := by exact fun _ => ⟨rfl, rfl, rfl, rfl, rfl, rfl, rfl, rfl, rfl⟩) :
    Confined staging true s (perform s (m >>= fun a => pure (up a, rs a))) :=
  ⟨up (m.apply s.fx).1, _, _, rfl, htx _, fun _ => hup _, nofun⟩

theorem confined_resultOrIllegal (r : Option Word64) : Confined staging flushes s (resultOrIllegal s r) := by
  cases r with
  | none => exact confined_illegal
  | some v => exact confined_performed

theorem confined_updateOrIllegal {α : Type} (r : Option α) {up : α → State}
    (hup : ∀ a, Confined staging flushes s (performed (up a) [])) :
    Confined staging flushes s (updateOrIllegal s (r.map up)) := by
  cases r with
  | none => exact confined_illegal
  | some a => exact hup a

theorem confined_orIllegal {c : Bool} {o : Out} (h : c = true → Confined staging flushes s o) :
    Confined staging flushes s (if c then o else illegal s) := by
  cases c with
  | false => exact confined_illegal
  | true => exact h rfl

theorem confined_orNotReady {c : Bool} {o : Out} (h : c = true → Confined staging flushes s o) :
    Confined staging flushes s (if c then o else notReady s) := by
  cases c with
  | false => exact confined_notReady
  | true => exact h rfl

theorem confined_frameNotHandled (sel : BitVec 8) (ops : List Word64) :
    Confined staging flushes s (frameNotHandled sel ops s) := by
  unfold frameNotHandled
  cases frameForm? sel ops.length with
  | none => exact confined_illegal
  | some io => exact confined_notHandled

end

/-! ### Every command -/

/-- Whatever the lengths, RESET and CREATE of the all-pass units reach no flush point (48_allpass.md R401, R420, R422). -/
theorem apfCreate_quiet (a : Apf) (sr ms : F64) : (apfCreate a sr ms).Quiet fun _ => True :=
  quiet_step (sdCreate_keeps _ _ _) fun _ _ => quiet_val trivial

theorem napfCreate_quiet (n : Napf) (sr mo mi : F64) : (napfCreate n sr mo mi).Quiet fun _ => True :=
  quiet_step (apfCreate_quiet _ _ _) fun _ _ => quiet_step (apfCreate_quiet _ _ _) fun _ _ => quiet_val trivial

theorem napfReset_quiet (n : Napf) (sr : F64) : (napfReset n sr).Quiet fun _ => True :=
  quiet_step (apfReset_keeps _ _) fun _ _ => quiet_step (apfReset_keeps _ _) fun _ _ => quiet_val trivial

section
variable (s : State)

/-- RESET.FDB changes FDB alone, created or not, which has no staging record (10_state.md R31). -/
theorem confined_execResetFdb (sr : F64) : Confined false false s (execResetFdb sr s) :=
  confined_orIllegal fun _ => by
    cases s.fdb.alloc with
    | false => exact confined_performed
    | true => exact confined_performed

theorem confined_execReadiFdb (d : Word64) : Confined false false s (execReadiFdb d s) := by
  unfold execReadiFdb
  cases integerDelay? d with
  | none => exact confined_illegal
  | some i => exact confined_orNotReady fun _ => confined_performed

theorem confined_execFrameTank (sel : BitVec 8) (ops : List Word64) :
    Confined false true s (execFrameTank sel ops s) := by
  unfold execFrameTank
  cases frameForm? sel ops.length with
  | none => exact confined_illegal
  | some io => exact confined_orIllegal fun _ => confined_orNotReady fun _ => confined_flushing

theorem confined_execProcTank (x : F64) : Confined false true s (execProcTank x s) := by
  rw [execProcTank_eq]
  exact confined_orNotReady fun _ => confined_flushing

end

/-- Every command leaves the staging records but for PLOAD and PSTAGE, and reports an underflow only where it reaches a
flush point. -/
theorem exec_confined (i : Instr) (s : State) : Confined i.isStaging i.flushes s (exec i s) := by
  cases i with
  | ploadTank | ploadBiquad | ploadLfo | ploadOnepole | ploadSdelay | ploadApf | ploadNapf | ploadFilter | ploadShelf =>
    exact confined_staged
  | pstageTank | pstageBiquad | pstageLfo | pstageOnepole | pstageSdelay | pstageApf | pstageNapf | pstageFilter
  | pstageShelf => exact confined_updateOrIllegal _ fun _ => confined_staged
  | setpBiquad | setpOnepole | setiFdb | canframeTank | canframeBiquad | canframeFdb | canframeLfo | canframeOnepole
  | canframeSdelay | canframeApf | canframeNapf | canframeFilter | canframeShelf => exact confined_performed
  | getpTank | getpBiquad | getpFdb | getpLfo | getpOnepole | getpSdelay | getpApf | getpNapf | getpFilter | getpShelf
  | bqrcBiquad | flrcFilter => exact confined_resultOrIllegal _
  | bqwcBiquad => exact confined_updateOrIllegal _ fun _ => confined_performed
  | frameTank sel ops => exact confined_execFrameTank s sel ops
  | frameBiquad | frameFdb | frameLfo | frameOnepole | frameSdelay | frameApf | frameNapf | frameFilter | frameShelf =>
    exact confined_frameNotHandled _ _
  | resetBiquad | resetOnepole | resetFilter | resetShelf | createFdb =>
    exact confined_orIllegal fun _ => confined_performed
  | resetFdb sr => exact confined_execResetFdb s sr
  | writeFdb | writeSdelay => exact confined_orNotReady fun _ => confined_performed
  | readiFdb d => exact confined_execReadiFdb s d
  | resetTank sr =>
    exact confined_orIllegal fun h => confined_procedure (rtReset_spec _ _ _ (Bool.and_eq_true_iff.1 h).2)
  | resetLfo sr => exact confined_orIllegal fun _ => confined_procedure (lfoReset_spec _ _)
  | resetSdelay sr => exact confined_orIllegal fun _ => confined_procedure (sdReset_keeps _ _)
  | resetApf sr => exact confined_orIllegal fun _ => confined_procedure (apfReset_keeps _ _)
  | resetNapf sr => exact confined_orIllegal fun _ => confined_procedure (napfReset_quiet _ _)
  | createSdelay sr ms => exact confined_orIllegal fun _ => confined_procedure (sdCreate_keeps _ _ _)
  | createApf sr ms => exact confined_orIllegal fun _ => confined_procedure (apfCreate_quiet _ _ _)
  | createNapf sr mo mi => exact confined_orIllegal fun _ => confined_procedure (napfCreate_quiet _ _ _ _)
  | setpTank => exact confined_procedure (rtSet_spec _ _ _)
  | setpLfo => exact confined_procedure (lfoSet_spec _ _)
  | setpSdelay => exact confined_procedure (sdSet_spec _ _)
  | setpApf => exact confined_procedure (apfSet_spec _ _)
  | setpNapf => exact confined_procedure (napfSet_spec _ _)
  | setpFilter => exact confined_procedure (afSet_spec _ _)
  | setpShelf => exact confined_procedure (shSet_spec _ _)
  | procTank x => exact confined_execProcTank s x
  | procBiquad | procOnepole | procFilter | procShelf => exact confined_flushing
  | procApf | procNapf => exact confined_orNotReady fun _ => confined_flushing
  | procSdelay x => exact confined_orNotReady fun _ => confined_procedure (sdProc_spec _ _)
  | bqgetsBiquad => exact confined_procedure (bqStorage_spec _)
  | readfFdb d => exact confined_orNotReady fun _ => confined_procedure (fdbReadF_spec _ _)
  | sdreadSdelay => exact confined_orNotReady fun _ => confined_procedure (sdRead_spec _)
  | sdreadtSdelay ms => exact confined_orNotReady fun _ => confined_procedure (sdReadT_spec _ _)
  | sdreadpSdelay pct => exact confined_orNotReady fun _ => confined_procedure (sdReadP_spec _ _)
  | renderLfo => exact confined_procedure (lfoRender_spec _)

end Sys2Proof.Machine

open Sys2Proof Sys2Proof.Machine

/-- Settles O10: the one response of a command is the answer that `Confined` speaks of. -/
theorem underflowOnlyFromFlushPoints : Obligations.UnderflowOnlyFromFlushPoints := by
  intro i s t r hi h hr
  obtain ⟨t', n, r', e, htx, -, hstatus⟩ := exec_confined i s
  obtain rfl := Host.Outcome.next.inj (h.symm.trans e)
  rw [State.answer_tx, htx] at hr
  obtain rfl := List.singleton_inj.1 (List.append_cancel_left hr)
  exact hstatus hi

/-- Settles O14: `Confined` speaks of the state before the answer is given. -/
theorem stagingChangesOnlyByPloadPstage : Obligations.StagingChangesOnlyByPloadPstage := by
  intro i s t hi h
  obtain ⟨t', n, r, e, -, hstaging, -⟩ := exec_confined i s
  obtain rfl := Host.Outcome.next.inj (h.symm.trans e)
  exact (hstaging hi).answer n r
end

section
/-! PROOFS. The flush FTZ by magnitudes (spec/40_common.md R153) and the NaNs that an operation produces (R150, R158). -/

namespace Sys2Proof.Machine

/-! ### Negation, comparison and value by sign and magnitude -/

@[simp] theorem F64.mag_neg (v : F64) : F64.mag (F64.neg v) = F64.mag v := by
  rw [mag, mag, neg, BitVec.toNat_xor, Nat.xor_mod_two_pow]
  simp

@[simp] theorem F64.sign_neg (v : F64) : F64.sign (F64.neg v) = !F64.sign v := by
  rw [sign, sign, neg, BitVec.msb_xor]
  exact Bool.xor_true _

theorem F64.key_neg (v : F64) : F64.key (F64.neg v) = -F64.key v := by
  rw [key_eq, key_eq, sign_neg, mag_neg]
  cases F64.sign v <;> simp

theorem F64.lt_iff {a b : F64} :
    F64.lt a b = true ↔ F64.mag a ≤ Fmt.b64.inf ∧ F64.mag b ≤ Fmt.b64.inf ∧ F64.key a < F64.key b := by
  simp only [lt, Bool.and_eq_true, Bool.not_eq_true', ← Bool.not_eq_true, isNaN_iff, not_lt, decide_eq_true_eq, and_assoc]

theorem F64.abs_value_lt_abs_value_iff {v w : F64} : |F64.value v| < |F64.value w| ↔ F64.mag v < F64.mag w := by
  rw [value_eq, value_eq, Fmt.signed_abs, Fmt.signed_abs, mul_lt_mul_iff_of_pos_right Fmt.b64.two_pow_qmin_pos,
    Nat.cast_lt, Fmt.b64.units_strictMono.lt_iff_lt]

theorem F64.value_eq_zero_iff {v : F64} : F64.value v = 0 ↔ F64.mag v = 0 := by
  have hzero : F64.value F64.zero = 0 := by rw [value_eq]; simp [Fmt.signed, show F64.mag F64.zero = 0 by decide]
  have h := abs_value_lt_abs_value_iff (v := F64.zero) (w := v)
  rw [hzero, abs_zero, abs_pos, show F64.mag F64.zero = 0 by decide, Nat.pos_iff_ne_zero] at h
  exact not_iff_not.1 h

/-- A value above zero has a sign bit of 0, and is its own absolute value. -/
theorem F64.sign_of_pos {v : F64} (h : F64.lt F64.zero v = true) : F64.sign v = false := by
  obtain ⟨-, -, hkey⟩ := lt_iff.1 h
  rw [show F64.key F64.zero = 0 by decide, key_eq] at hkey
  cases hs : F64.sign v with
  | false => rfl
  | true =>
    rw [hs, if_pos rfl] at hkey
    omega

theorem F64.abs_value_of_pos {v : F64} (h : F64.lt F64.zero v = true) : |F64.value v| = F64.value v := by
  rw [value_eq, Fmt.signed_abs, Fmt.signed, sign_of_pos h]
  simp

/-! ### The flush -/

theorem ftz_apply (thr v : F64) (fx : Fx) :
    (ftz thr v).apply fx = if flushed thr v then (0, ⟨fx.draws, true⟩) else (v, fx) := by
  unfold ftz flushed
  split <;> rfl

theorem flushed_iff (thr v : F64) : flushed thr v = true ↔
    (F64.lt F64.zero v = true ∧ F64.lt v thr = true) ∨ (F64.lt v F64.zero = true ∧ F64.lt (F64.neg thr) v = true) := by
  rw [flushed, Bool.or_eq_true, Bool.and_eq_true, Bool.and_eq_true]

/-- At a threshold above zero the flushed values are those of a magnitude between zero and the threshold's, both
excluded. -/
theorem flushed_iff_mag {thr v : F64} (hthr : F64.lt F64.zero thr = true) :
    flushed thr v = true ↔ 0 < F64.mag v ∧ F64.mag v < F64.mag thr := by
  obtain ⟨-, hthrNum, -⟩ := F64.lt_iff.1 hthr
  have hkey : F64.key thr = F64.mag thr := by rw [F64.key_eq, F64.sign_of_pos hthr]; rfl
  simp only [flushed_iff, F64.lt_iff, F64.key_neg, F64.mag_neg, hkey, show F64.key F64.zero = 0 by decide,
    show F64.mag F64.zero = 0 by decide]
  rw [F64.key_eq v]
  split <;> omega

/-- The same by values: a flushed value is finite, since the threshold is. -/
theorem flushed_iff_value {thr v : F64} (hfin : F64.isFinite thr = true) (hthr : F64.lt F64.zero thr = true) :
    flushed thr v = true ↔ F64.isFinite v = true ∧ F64.value v ≠ 0 ∧ |F64.value v| < F64.value thr := by
  rw [F64.isFinite_iff] at hfin ⊢
  rw [flushed_iff_mag hthr, ← F64.abs_value_of_pos hthr, F64.abs_value_lt_abs_value_iff, ne_eq, F64.value_eq_zero_iff]
  omega

end Sys2Proof.Machine

open Sys2Proof.Machine

/-- Settles O29: FTZ flushes what `flushed` says, which at a finite positive threshold is a comparison of magnitudes. -/
theorem flushRule : Obligations.FlushRule := by
  intro thr v fx
  simp only [ftz_apply, ← flushed_iff]
  refine ⟨fun h => if_pos h, fun h => if_neg h, fun hfin hthr => ⟨fun hv h0 hlt => if_pos ?_, fun h => if_neg ?_⟩⟩
  · exact (flushed_iff_value hfin hthr).2 ⟨hv, h0, hlt⟩
  · intro hflushed
    obtain ⟨hv, h0, hlt⟩ := (flushed_iff_value hfin hthr).1 hflushed
    rcases h with hinf | hzero | hge
    · exact Bool.false_ne_true (hinf.symm.trans hv)
    · exact h0 hzero
    · exact hge.not_gt hlt

/-- Settles O28: an operation gives its number as it is, and for no number the NaN of the next free value. -/
theorem producedNaNsAreFresh : Obligations.ProducedNaNsAreFresh := by
  refine ⟨fun r fx => ⟨?_, ?_⟩, fun r fx => ⟨?_, ?_⟩⟩
  · rintro v rfl
    exact ofOp_some_apply v fx
  · rintro rfl
    exact ⟨isNaN_nan64 fx.draws, ofOp_none_apply fx⟩
  · rintro v rfl
    exact ofOp32_some_apply v fx
  · rintro rfl
    exact ⟨isNaN_nan32 fx.draws, ofOp32_none_apply fx⟩
end

section
/-! PROOFS. The lifecycle commands of every unit (spec/40_common.md R160, R170, R173, R174, R176). -/

namespace Sys2Proof.Machine

/-- A FRAME has a legal form in the four SELs of one or two channels each way, with an operand for each input channel
(30_encoding.md R113, R114, R121). -/
theorem frameForm?_isSome_iff {sel : BitVec 8} {nops : Nat} : (frameForm? sel nops).isSome ↔
    sel ∈ [0x11#8, 0x12#8, 0x21#8, 0x22#8] ∧ nops = sel.toNat / 16 := by
  rw [Option.isSome_iff_exists, Prod.exists]
  simp only [frameForm?_eq_some_iff, List.mem_cons, List.not_mem_nil, or_false, ← BitVec.toNat_inj, BitVec.toNat_ofNat]
  constructor
  · rintro ⟨inCh, outCh, hin, hout, hsel, hops⟩
    omega
  · rintro ⟨hsel, hops⟩
    exact ⟨sel.toNat / 16, sel.toNat % 16, by omega⟩

theorem frameNotHandled_of_isSome {sel : BitVec 8} {ops : List Word64} (h : (frameForm? sel ops.length).isSome)
    (s : State) : frameNotHandled sel ops s = .next (s.answer s.draws ⟨0#32, []⟩) := by
  obtain ⟨io, hio⟩ := Option.isSome_iff_exists.1 h
  rw [frameNotHandled, hio, notHandled_eq]

theorem frameNotHandled_of_not_isSome {sel : BitVec 8} {ops : List Word64} (h : ¬ (frameForm? sel ops.length).isSome)
    (s : State) : frameNotHandled sel ops s = .next (s.answer s.draws ⟨4#32, []⟩) := by
  rw [frameNotHandled, Option.not_isSome_iff_eq_none.1 h, illegal_eq]

/-- FRAME on the nine units other than TANK is one command (40_common.md R174). -/
theorem exec_otherFrame (s : State) (sel : BitVec 8) (ops : List Word64) :
    ∀ i ∈ [Instr.frameBiquad sel ops, .frameFdb sel ops, .frameLfo sel ops, .frameOnepole sel ops, .frameSdelay sel ops,
      .frameApf sel ops, .frameNapf sel ops, .frameFilter sel ops, .frameShelf sel ops],
      exec i s = frameNotHandled sel ops s := by
  simp only [List.forall_mem_cons]
  exact ⟨rfl, rfl, rfl, rfl, rfl, rfl, rfl, rfl, rfl, nofun⟩

theorem validRate_iff {sr : F64} : validRate sr = true ↔ F64.isFinite sr = true ∧ F64.lt F64.zero sr = true := by
  rw [validRate, Bool.and_eq_true]

theorem validRate_eq_false_iff {sr : F64} :
    validRate sr = false ↔ F64.isFinite sr = false ∨ F64.lt F64.zero sr = false := by
  rw [validRate, Bool.and_eq_false_iff]

/-- A command whose test fails is refused (60_exceptions.md R502). -/
theorem orIllegal_of_false {c : Bool} {o : Out} {s : State} (h : c = false) :
    (if c then o else illegal s) = .next (s.answer s.draws ⟨4#32, []⟩) := by
  rw [h, if_neg Bool.false_ne_true, illegal_eq]

end Sys2Proof.Machine

open Sys2Proof Sys2Proof.Machine

/-- Settles O35, unit by unit. -/
theorem ploadCopiesRecord : Obligations.PloadCopiesRecord := fun s =>
  ⟨performed_eq (s.setTankStg s.tank.record) [], performed_eq (s.setBiquadStg s.biquad.record) [],
    performed_eq (s.setLfoStg s.lfo.record) [], performed_eq (s.setOnepoleStg s.onepole.record) [],
    performed_eq (s.setSdelayStg s.sdelay.record) [], performed_eq (s.setApfStg s.apf.record) [],
    performed_eq (s.setNapfStg s.napf.record) [], performed_eq (s.setFilterStg s.filter.record) [],
    performed_eq (s.setShelfStg s.shelf.record) []⟩

/-- Settles O38: the nine FRAMEs are one command, which looks at the form alone. -/
theorem frameCapability : Obligations.FrameCapability := by
  refine fun s => ⟨performed_eq s [1#64], ?_, fun sel ops i hi => ?_⟩
  · have hzero := performed_eq s [0#64]
    simp only [List.forall_mem_cons]
    exact ⟨hzero, hzero, hzero, hzero, hzero, hzero, hzero, hzero, hzero, nofun⟩
  · rw [exec_otherFrame s sel ops i hi, ← frameForm?_isSome_iff]
    exact ⟨fun h => frameNotHandled_of_isSome h s, fun h => frameNotHandled_of_not_isSome h s⟩

/-- Settles O42: every RESET and CREATE with a rate tests it first. -/
theorem invalidRatesRefused : Obligations.InvalidRatesRefused := by
  intro s sr ms ms' h
  have hrate : validRate sr = false := validRate_eq_false_iff.2 h
  have hand (c : Bool) : (validRate sr && c) = false := by rw [hrate, Bool.false_and]
  simp only [List.forall_mem_cons]
  refine ⟨?resetTank, ?resetBiquad, ?resetFdb, ?resetLfo, ?resetOnepole, ?resetSdelay, ?resetApf, ?resetNapf,
    ?resetFilter, ?resetShelf, ?createSdelay, ?createApf, ?createNapf, nofun⟩
  case resetBiquad | resetFdb | resetLfo | resetOnepole | resetFilter | resetShelf => exact orIllegal_of_false hrate
  case resetTank | resetSdelay | resetApf | createSdelay | createApf => exact orIllegal_of_false (hand _)
  case resetNapf | createNapf => exact orIllegal_of_false (by rw [hand, Bool.false_and])
end

section
/-! PROOFS. PROC.ONEPOLE (spec/46_one_pole.md R341), the CREATE commands (40_common.md R161, 41_delay_buffer.md R190,
47_simple_delay.md R360, 48_allpass.md R401, R420) and the accesses of the FDB unit (41_delay_buffer.md R201 to R204). -/

namespace Sys2Proof.Machine

/-- A command whose test holds (60_exceptions.md R502). -/
theorem orIllegal_of_true {c : Bool} {o : Out} {s : State} (h : c = true) : (if c then o else illegal s) = o := by
  rw [h, if_pos rfl]

/-- A command whose memory exists (60_exceptions.md R503). -/
theorem orNotReady_of_true {c : Bool} {o : Out} {s : State} (h : c = true) : (if c then o else notReady s) = o := by
  rw [h, if_pos rfl]

/-! ### Creation -/

theorem lengthFits_iff {l n : Nat} : lengthFits l n = true ↔ pow2ceil n ≤ 2 ^ l := decide_eq_true_iff

theorem lengthFits_eq_false_iff {l n : Nat} : lengthFits l n = false ↔ 2 ^ l < pow2ceil n := by
  rw [← Bool.not_eq_true, lengthFits_iff, not_le]

section
variable {s : State} {sr ms ms' : F64}

theorem execCreateSdelay_creates (hrate : validRate sr = true) (hfit : fits s.cfg.lmaxLog2 sr ms = true) :
    ∃ d n, LineCreated s.sdelay sr ms d ∧ s.draws ≤ n ∧
      execCreateSdelay sr ms s = .next ((s.setSdelay d).answer n ⟨1#32, []⟩) := by
  rw [execCreateSdelay, orIllegal_of_true (by rw [hrate, hfit]; rfl)]
  exact perform_quiet_procedure s.setSdelay (fun _ => []) (sdCreate_spec s.sdelay sr ms (fits_need hfit))

theorem execCreateApf_creates (hrate : validRate sr = true) (hfit : fits s.cfg.lmaxLog2 sr ms = true) :
    ∃ d n, LineCreated s.apf.sd sr ms d ∧ s.draws ≤ n ∧
      execCreateApf sr ms s = .next ((s.setApf { s.apf with sd := d }).answer n ⟨1#32, []⟩) := by
  rw [execCreateApf, orIllegal_of_true (by rw [hrate, hfit]; rfl)]
  obtain ⟨a, n, ⟨hline, ha⟩, hn, e⟩ :=
    perform_quiet_procedure (s := s) s.setApf (fun _ => []) (apfCreate_created s.apf hfit)
  rw [ha] at e
  exact ⟨a.sd, n, hline, hn, e⟩

/-- A created cell is the old one with two created lines. -/
theorem eq_of_sections_created {n n' : Napf} (ho : ApfCreated n.outer sr ms n'.outer)
    (hi : ApfCreated n.inner sr ms' n'.inner) (hr : n'.record = n.record) :
    n' = { n with outer := { n.outer with sd := n'.outer.sd }, inner := { n.inner with sd := n'.inner.sd } } := by
  rw [← ho.2, ← hi.2, ← hr]

theorem execCreateNapf_creates (hrate : validRate sr = true) (hfit : fits s.cfg.lmaxLog2 sr ms = true)
    (hfit' : fits s.cfg.lmaxLog2 sr ms' = true) :
    ∃ d d' n, LineCreated s.napf.outer.sd sr ms d ∧ LineCreated s.napf.inner.sd sr ms' d' ∧ s.draws ≤ n ∧
      execCreateNapf sr ms ms' s = .next ((s.setNapf { s.napf with
        outer := { s.napf.outer with sd := d }, inner := { s.napf.inner with sd := d' } }).answer n ⟨1#32, []⟩) := by
  rw [execCreateNapf, orIllegal_of_true (by rw [hrate, hfit, hfit']; rfl)]
  obtain ⟨c, n, ⟨ho, hi, hr⟩, hn, e⟩ :=
    perform_quiet_procedure (s := s) s.setNapf (fun _ => []) (napfCreate_created s.napf hfit hfit')
  rw [eq_of_sections_created ho hi hr] at e
  exact ⟨c.outer.sd, c.inner.sd, n, ho.1, hi.1, hn, e⟩

end

/-! ### The FDB unit -/

theorem integerDelay?_of_mem {d : Word64} (h : -2 ^ 31 ≤ d.toInt ∧ d.toInt ≤ 2 ^ 31 - 1) :
    integerDelay? d = some d.toInt := if_pos h

theorem integerDelay?_of_not_mem {d : Word64} (h : d.toInt < -2 ^ 31 ∨ 2 ^ 31 - 1 < d.toInt) :
    integerDelay? d = none := if_neg (by omega)

/-- What a write stores and where the cursor goes (41_delay_buffer.md R191). -/
theorem Fdb.Ok.fdbWrite_eq {l : Nat} {b : Fdb} (h : b.Ok l) (x : F64) :
    fdbWrite b x = { b with mem := Memory.write b.mem b.w x, w := (b.w + 1) % b.len } := by
  rw [← h.write_w x]
  rfl

section
variable {s : State}

theorem execReadiFdb_eq (halloc : s.fdb.alloc = true) {d : Word64} (h : -2 ^ 31 ≤ d.toInt ∧ d.toInt ≤ 2 ^ 31 - 1) :
    execReadiFdb d s = .next (s.answer s.draws ⟨1#32, [fdbReadI s.fdb d.toInt]⟩) := by
  rw [execReadiFdb, integerDelay?_of_mem h]
  exact (orNotReady_of_true halloc).trans (performed_eq s _)

theorem execReadiFdb_of_not_mem {d : Word64} (h : d.toInt < -2 ^ 31 ∨ 2 ^ 31 - 1 < d.toInt) :
    execReadiFdb d s = .next (s.answer s.draws ⟨4#32, []⟩) := by
  rw [execReadiFdb, integerDelay?_of_not_mem h, illegal_eq]

theorem execReadfFdb_reads (halloc : s.fdb.alloc = true) (d : F64) :
    ∃ y n, ReadGives s.fdb d y ∧ s.draws ≤ n ∧ execReadfFdb d s = .next (s.answer n ⟨1#32, [y]⟩) := by
  rw [execReadfFdb, orNotReady_of_true halloc]
  exact perform_quiet_procedure (fun _ => s) (fun y => [y]) (fdbReadF_spec s.fdb d)

end

end Sys2Proof.Machine

open Sys2Proof Sys2Proof.Machine

/-- Settles O48: `OnePoleStep` is the recursion with its flush, and PROC.ONEPOLE runs one of them. -/
theorem procOnepoleRecursion : Obligations.ProcOnepoleRecursion := by
  intro s x
  obtain ⟨⟨y, h⟩, uf, n, ⟨k, a, b, y0, hk, ha, hb, hy0, hflush, hstate⟩, hn, e⟩ := perform_procedure (s := s)
    (fun r => s.setOnepole r.2) (fun r => [r.1]) (opProc_spec s.cfg s.onepole x)
  dsimp only at hflush hstate e
  rw [hstate] at e
  exact ⟨k, a, b, y0, y, uf, n, hk, ha, hb, hy0, hflush, hn, e⟩

/-- Settles O55: each CREATE tests the lengths it needs and then runs the `create` procedure of its unit. -/
theorem createMakesMemory : Obligations.CreateMakesMemory := by
  refine ⟨fun s n => ⟨fun h => ?_, fun h => orIllegal_of_false (lengthFits_eq_false_iff.2 h)⟩,
    fun s sr ms ms' hfin hpos => ?_⟩
  · exact (orIllegal_of_true (lengthFits_iff.2 h)).trans (performed_eq (s.setFdb (freshBuffer s.fdb.interp n.toNat)) [])
  · have hrate : validRate sr = true := validRate_iff.2 ⟨hfin, hpos⟩
    refine ⟨fun h => ⟨execCreateSdelay_creates hrate h, execCreateApf_creates hrate h⟩, fun h => ?_,
      fun ⟨h, h'⟩ => execCreateNapf_creates hrate h h', fun h => ?_⟩
    · have htest : (validRate sr && fits s.cfg.lmaxLog2 sr ms) = false := by rw [h, Bool.and_false]
      exact ⟨orIllegal_of_false htest, orIllegal_of_false htest⟩
    · refine orIllegal_of_false ?_
      rw [Bool.and_assoc, Bool.and_eq_false_iff.2 h, Bool.and_false]

/-- Settles O56: the commands of the FDB unit, the reads and the cursor by the buffer's well-formedness. -/
theorem fdbAccess : Obligations.FdbAccess := by
  refine fun s => ⟨fun v => performed_eq (s.setFdb { s.fdb with interp := v }) [], fun d h => execReadiFdb_of_not_mem h,
    fun halloc l hok => ⟨fun x => ⟨Memory.write s.fdb.mem s.fdb.w x, ?_, fun j => Memory.read_write hok.memory _ _ _⟩,
      fun d h => ?_, execReadfFdb_reads halloc⟩⟩
  · rw [← hok.fdbWrite_eq]
    exact (orNotReady_of_true halloc).trans (performed_eq (s.setFdb (fdbWrite s.fdb x)) [])
  · rw [← hok.readI_eq]
    exact execReadiFdb_eq halloc h
end

section
/-! PROOFS. What the delay buffer reads back after a run of writes (spec/41_delay_buffer.md R191, R192). -/

namespace Sys2Proof.Machine

section
variable {l : Nat} {b : Fdb}

/-- The read `i - 1` is of the word under the cursor, the one the next write stores to, just at the multiples `i` of the
length. -/
theorem Fdb.Ok.index_eq_cursor_iff (hok : b.Ok l) (i : Int) :
    (((b.w : Int) - 1 - (i - 1)) % b.len).toNat = b.w ↔ (b.len : Int) ∣ i := by
  have hlen : (b.len : Int) ≠ 0 := by
    have hcursor := hok.cursor
    omega
  have hw : (b.w : Int) % b.len = b.w := by exact_mod_cast Nat.mod_eq_of_lt hok.cursor
  calc (((b.w : Int) - 1 - (i - 1)) % b.len).toNat = b.w
      ↔ ((b.w : Int) - 1 - (i - 1)) % b.len = b.w % b.len := by
        rw [hw, ← Int.natCast_inj, Int.toNat_of_nonneg (Int.emod_nonneg _ hlen)]
    _ ↔ (b.len : Int) ∣ b.w - (b.w - 1 - (i - 1)) := Int.modEq_iff_dvd
    _ ↔ (b.len : Int) ∣ i := by ring_nf

/-- An integer read after a write: the written sample at a multiple of the length, elsewhere what the read one nearer gave
before the write, since the cursor has moved by one. -/
theorem Fdb.Ok.readI_write (hok : b.Ok l) (x : F64) (i : Int) :
    fdbReadI (fdbWrite b x) i = if (b.len : Int) ∣ i then x else fdbReadI b (i - 1) := by
  have hindex : ((fdbWrite b x).w - 1 - i) % (b.len : Int) = (b.w - 1 - (i - 1)) % (b.len : Int) := by
    rw [hok.write_w, Int.natCast_emod, sub_sub, Int.emod_sub_emod]
    push_cast
    congr 1
    ring
  rw [(hok.write x).readI_eq, hok.readI_eq, fdbWrite_len, hindex, fdbWrite_mem, Memory.read_write hok.memory]
  exact if_congr (hok.index_eq_cursor_iff i) rfl rfl

theorem Fdb.Ok.readI_write_zero (hok : b.Ok l) (x : F64) : fdbReadI (fdbWrite b x) 0 = x := by
  rw [hok.readI_write, if_pos (dvd_zero _)]

/-- Below the length a write moves every sample one read away. -/
theorem Fdb.Ok.readI_write_succ (hok : b.Ok l) (x : F64) {k : Nat} (hk : k + 1 < b.len) :
    fdbReadI (fdbWrite b x) (k + 1 : Nat) = fdbReadI b k := by
  have hndvd : ¬ (b.len : Int) ∣ (k + 1 : Nat) := by
    rw [Int.natCast_dvd_natCast]
    exact Nat.not_dvd_of_pos_of_lt k.succ_pos hk
  rw [hok.readI_write, if_neg hndvd, Nat.cast_succ, add_sub_cancel_right]

theorem Fdb.Ok.foldl_write (hok : b.Ok l) (xs : List F64) : (xs.foldl fdbWrite b).Ok l := by
  induction xs generalizing b with
  | nil => exact hok
  | cons x xs ih => exact ih (hok.write x)

@[simp] theorem foldl_fdbWrite_len (b : Fdb) (xs : List F64) : (xs.foldl fdbWrite b).len = b.len := by
  induction xs generalizing b with
  | nil => rfl
  | cons x xs ih => exact ih (fdbWrite b x)

/-- Below the length the integer reads give the run of writes, latest first. -/
theorem Fdb.Ok.readI_foldl_write (hok : b.Ok l) (xs : List F64) (k : Nat) (hk : k < xs.reverse.length)
    (hlen : k < b.len) : fdbReadI (xs.foldl fdbWrite b) k = xs.reverse[k] := by
  induction xs using List.reverseRecOn generalizing k with
  | nil => exact absurd hk k.not_lt_zero
  | append_singleton xs x ih =>
    have hok' : (xs.foldl fdbWrite b).Ok l := hok.foldl_write xs
    simp only [List.foldl_concat, List.reverse_concat] at hk ⊢
    cases k with
    | zero => exact hok'.readI_write_zero x
    | succ k =>
      rw [hok'.readI_write_succ x (by rwa [foldl_fdbWrite_len]), List.getElem_cons_succ]
      exact ih k (Nat.lt_of_succ_lt_succ hk) (Nat.lt_of_succ_lt hlen)

end

end Sys2Proof.Machine

open Sys2Proof.Machine

/-- Settles O33: the reads give the reverse of the run of writes. -/
theorem bufferReadsBack : Obligations.BufferReadsBack := by
  intro l b hok xs k hk hlen
  rw [hok.readI_foldl_write xs k (by rwa [List.length_reverse]) hlen, List.getElem_reverse]
end

section
/-! PROOFS. SETP of the units whose record is all that a commit replaces, SETP of the oscillator (spec/42_lfo.md R224, R234;
43_biquad.md R252, R266; 46_one_pole.md R342, R346), and RENDER (42_lfo.md R225, R232). -/

namespace Sys2Proof.Machine

theorem execSetpBiquad_eq (s : State) : execSetpBiquad s =
    .next ((s.setBiquad { s.biquad with record := s.biquadStg }).answer s.draws ⟨1#32, []⟩) :=
  performed_eq (s.setBiquad (bqSet s.biquad s.biquadStg)) []

theorem execSetpOnepole_eq (s : State) : execSetpOnepole s =
    .next ((s.setOnepole { s.onepole with record := s.onepoleStg }).answer s.draws ⟨1#32, []⟩) :=
  performed_eq (s.setOnepole (opSet s.onepole s.onepoleStg)) []

theorem execSetpLfo_sets (s : State) : ∃ o n, LfoSet s.lfo s.lfoStg o ∧ s.draws ≤ n ∧
    execSetpLfo s = .next ((s.setLfo o).answer n ⟨1#32, []⟩) :=
  perform_quiet_procedure s.setLfo (fun _ => []) (lfoSet_spec s.lfo s.lfoStg)

/-- The result words of a render, in the order of R232. -/
def LfoOut.words (r : LfoOut) : List Word64 := [r.normal, r.inverted, r.quadPos, r.quadNeg]

/-- The result words when the inverted outputs are the negatives of the others (42_lfo.md R225): unary minus flips the sign
bit (00_scope.md R15). -/
theorem LfoOut.words_of_neg {r : LfoOut} (hinv : r.inverted = F64.neg r.normal) (hneg : r.quadNeg = F64.neg r.quadPos) :
    r.words = [r.normal, r.normal ^^^ 0x8000000000000000#64, r.quadPos, r.quadPos ^^^ 0x8000000000000000#64] := by
  rw [words, hinv, hneg, F64.neg, F64.neg]

theorem execRenderLfo_renders (s : State) : ∃ (r : LfoOut) (o : Lfo) (n : Nat), RenderGives s.lfo r.normal r.quadPos o ∧
    r.inverted = F64.neg r.normal ∧ r.quadNeg = F64.neg r.quadPos ∧ s.draws ≤ n ∧
    execRenderLfo s = .next ((s.setLfo o).answer n ⟨1#32, r.words⟩) := by
  obtain ⟨⟨r, o⟩, n, ⟨hrender, hinv, hneg⟩, hn, e⟩ := perform_quiet_procedure (s := s) (fun r => s.setLfo r.2)
    (fun r => r.1.words) (lfoRender_spec s.lfo)
  exact ⟨r, o, n, hrender, hinv, hneg, hn, e⟩

end Sys2Proof.Machine

open Sys2Proof.Machine

/-- Settles O43: SETP of BIQUAD and ONEPOLE replaces the record alone, and SETP.LFO runs `lfo_set` on the staging record. -/
theorem setpPlainUnits : Obligations.SetpPlainUnits := fun s =>
  ⟨execSetpBiquad_eq s, execSetpOnepole_eq s, execSetpLfo_sets s⟩

/-- Settles O58: RENDER.LFO answers with the words of one `lfo_render`. -/
theorem renderAdvancesPhase : Obligations.RenderAdvancesPhase := by
  intro s
  obtain ⟨r, o, n, hrender, hinv, hneg, hn, e⟩ := execRenderLfo_renders s
  rw [LfoOut.words_of_neg hinv hneg] at e
  exact ⟨r.normal, r.quadPos, o, n, hrender, hn, e⟩
end

section
/-! PROOFS. The BIQUAD unit: PROC by the committed structure (spec/43_biquad.md R253 to R257, R267), the coefficients by
index (R262, R263; 44_filter_designer.md R301) and the storage accessor (43_biquad.md R258, R264). -/

namespace Sys2Proof.Machine

/-- Below 7 the index names a slot, and a write replaces that slot alone (30_encoding.md R113). -/
theorem Coef.set?_of_lt {k : BitVec 8} (h : k.toNat < 7) (c : Coef) (v : F64) :
    ∃ coef, c.set? k v = some coef ∧ coef.slots = c.slots.set k.toNat v := by
  unfold Coef.set?
  match k.toNat, h with
  | 0, _ | 1, _ | 2, _ | 3, _ | 4, _ | 5, _ | 6, _ => exact ⟨_, rfl, rfl⟩

theorem execBqwcBiquad_writes {k : BitVec 8} (h : k.toNat < 7) (c : F64) (s : State) :
    ∃ coef, coef.slots = s.biquad.coef.slots.set k.toNat c ∧
      execBqwcBiquad k c s = .next ((s.setBiquad { s.biquad with coef := coef }).answer s.draws ⟨1#32, []⟩) := by
  obtain ⟨coef, hset, hslots⟩ := Coef.set?_of_lt h s.biquad.coef c
  refine ⟨coef, hslots, ?_⟩
  rw [execBqwcBiquad, hset, Option.map_some, updateOrIllegal_some]
  rfl

theorem execBqgetsBiquad_reads (s : State) : ∃ y n, StorageGives s.biquad y ∧ s.draws ≤ n ∧
    execBqgetsBiquad s = .next (s.answer n ⟨1#32, [y]⟩) :=
  perform_quiet_procedure (fun _ => s) (fun y => [y]) (bqStorage_spec s.biquad)

/-- PROC.BIQUAD runs one step of the committed structure, then the flush (43_biquad.md R257). -/
theorem execProcBiquad_steps (s : State) (x : F64) : ∃ y0 r n,
    FormStep s.cfg.ftzThreshold s.biquad.record.algorithm s.biquad.coef s.biquad.s x y0 r ∧ s.draws ≤ n ∧
      execProcBiquad x s = .next ((s.setBiquad { s.biquad with s := r }).answer n
        ⟨handledStatus (flushed s.cfg.ftzThreshold y0), [flushOf s.cfg.ftzThreshold y0]⟩) := by
  obtain ⟨⟨y, q⟩, uf, n, ⟨y0, r, hstep, hy, huf, hq⟩, hn, e⟩ := perform_procedure (s := s)
    (fun r => s.setBiquad r.2) (fun r => [r.1]) (bqProc_spec s.cfg s.biquad x)
  dsimp only at hy hq e
  rw [hy, huf, hq] at e
  exact ⟨y0, r, n, hstep, hn, e⟩

end Sys2Proof.Machine

open Sys2Proof Sys2Proof.Machine

/-- Settles O47: `FormStep` is, structure by structure, the equations of R253 to R256. -/
theorem procBiquadStructures : Obligations.ProcBiquadStructures := by
  intro s x
  obtain ⟨y0, r, n, hstep, hn, e⟩ := execProcBiquad_steps s x
  exact ⟨y0, r, n, hn, hstep, e⟩

/-- Settles O54: the accessors of the coefficients by slot, and BQGETS by `bq_storage`. -/
theorem coefficientAccess : Obligations.CoefficientAccess := fun s =>
  ⟨fun _ c h => execBqwcBiquad_writes h c s, fun _ c h => execBqwcBiquad_of_index h c s,
    readsFields_of_field? s.biquad.coef.get?_eq, readsFields_of_field? s.filter.coef.get?_eq, execBqgetsBiquad_reads s⟩
end

section
/-! PROOFS. The FILTER and SHELF units: SETP redesigns a designer whose record changes (spec/44_filter_designer.md R296, R303;
45_shelving.md R321, R331), PROC filters one sample (44_filter_designer.md R297, R304; 45_shelving.md R322, R332). -/

namespace Sys2Proof.Machine

/-- A design reaches no flush point (40_common.md R154), so SETP answers without UF. -/
theorem execSetpFilter_sets (s : State) : ∃ f n, FilterSet s.filter s.filterStg f ∧ s.draws ≤ n ∧
    execSetpFilter s = .next ((s.setFilter f).answer n ⟨1#32, []⟩) :=
  perform_quiet_procedure s.setFilter (fun _ => []) (afSet_spec s.filter s.filterStg)

theorem execSetpShelf_sets (s : State) : ∃ e n, ShelfSet s.shelf s.shelfStg e ∧ s.draws ≤ n ∧
    execSetpShelf s = .next ((s.setShelf e).answer n ⟨1#32, []⟩) :=
  perform_quiet_procedure s.setShelf (fun _ => []) (shSet_spec s.shelf s.shelfStg)

/-- UF is the flush of the designer's biquad (43_biquad.md R257). -/
theorem execProcFilter_steps (s : State) (x : F64) : ∃ y f uf n,
    FilterStep s.cfg.ftzThreshold s.filter x y f uf ∧ s.draws ≤ n ∧
      execProcFilter x s = .next ((s.setFilter f).answer n ⟨handledStatus uf, [y]⟩) := by
  obtain ⟨⟨y, f⟩, uf, n, hstep, hn, e⟩ := perform_procedure (s := s)
    (fun r => s.setFilter r.2) (fun r => [r.1]) (afProc_spec s.cfg s.filter x)
  exact ⟨y, f, uf, n, hstep, hn, e⟩

/-- UF is set by the flush of either shelf's biquad. -/
theorem execProcShelf_steps (s : State) (x : F64) : ∃ y e uf n,
    ShelfStep s.cfg.ftzThreshold s.shelf x y e uf ∧ s.draws ≤ n ∧
      execProcShelf x s = .next ((s.setShelf e).answer n ⟨handledStatus uf, [y]⟩) := by
  obtain ⟨⟨y, e⟩, uf, n, hstep, hn, heq⟩ := perform_procedure (s := s)
    (fun r => s.setShelf r.2) (fun r => [r.1]) (shProc_spec s.cfg s.shelf x)
  exact ⟨y, e, uf, n, hstep, hn, heq⟩

end Sys2Proof.Machine

open Sys2Proof.Machine

/-- Settles O44: SETP of each unit is `af_set` or `sh_set` of the staging record, by their specs. -/
theorem setpDesigners : Obligations.SetpDesigners := fun s =>
  ⟨execSetpFilter_sets s, execSetpShelf_sets s⟩

/-- Settles O49: PROC of each unit is `af_proc` or `sh_proc`, by their specs. -/
theorem procDesigners : Obligations.ProcDesigners := fun s x =>
  ⟨execProcFilter_steps s x, execProcShelf_steps s x⟩
end

section
/-! PROOFS. The commands of the delay units that keep the latched delay or latch it: RESET (spec/47_simple_delay.md R361, R371;
48_allpass.md R402, R422, R431, R435) and SETP (47_simple_delay.md R363, R372; 48_allpass.md R403, R421, R432, R436). -/

namespace Sys2Proof.Machine

/-! ### RESET -/

theorem needsCreate_eq_false_iff {d : SDelay} {sr : F64} :
    needsCreate d sr = false ↔ F64.eq sr d.sr = true ∧ d.buf.alloc = true := by
  rw [needsCreate, Bool.not_eq_false', Bool.and_eq_true]

theorem needsCreate_eq_true_iff {d : SDelay} {sr : F64} :
    needsCreate d sr = true ↔ F64.eq sr d.sr = false ∨ d.buf.alloc = false := by
  rw [needsCreate, Bool.not_eq_true', Bool.and_eq_false_iff]

theorem sdReset_of_not_needsCreate {d : SDelay} {sr : F64} (h : needsCreate d sr = false) :
    sdReset d sr = pure { d with buf := fdbFlush d.buf } := by
  rw [sdReset, h, if_neg Bool.false_ne_true]

theorem sdReset_of_needsCreate {d : SDelay} {sr : F64} (h : needsCreate d sr = true) :
    sdReset d sr = sdCreate d sr d.bufMs := by
  rw [sdReset, h, if_pos rfl]

/-- A command whose procedure computes nothing takes no free value. -/
theorem perform_pure_procedure {α : Type} (s : State) (a : α) (up : α → State) (rs : α → List Word64) :
    perform s (pure a >>= fun a => pure (up a, rs a)) = .next ((up a).answer s.draws ⟨1#32, rs a⟩) := rfl

section
variable {s : State} {sr : F64}

theorem execResetSdelay_flushes (hrate : validRate sr = true) (h : needsCreate s.sdelay sr = false) :
    execResetSdelay sr s =
      .next ((s.setSdelay { s.sdelay with buf := fdbFlush s.sdelay.buf }).answer s.draws ⟨1#32, []⟩) := by
  rw [execResetSdelay, orIllegal_of_true (by rw [hrate, h]; rfl), sdReset_of_not_needsCreate h]
  exact perform_pure_procedure s _ s.setSdelay fun _ => []

theorem execResetSdelay_creates (hrate : validRate sr = true) (h : needsCreate s.sdelay sr = true)
    (hfit : fits s.cfg.lmaxLog2 sr s.sdelay.bufMs = true) :
    ∃ d n, LineCreated s.sdelay sr s.sdelay.bufMs d ∧ s.draws ≤ n ∧
      execResetSdelay sr s = .next ((s.setSdelay d).answer n ⟨1#32, []⟩) := by
  rw [execResetSdelay, orIllegal_of_true (by rw [hrate, hfit, Bool.or_true]; rfl), sdReset_of_needsCreate h]
  exact perform_quiet_procedure s.setSdelay (fun _ => []) (sdCreate_spec _ _ _ (fits_need hfit))

theorem execResetSdelay_refuses (h : needsCreate s.sdelay sr = true)
    (hfit : fits s.cfg.lmaxLog2 sr s.sdelay.bufMs = false) :
    execResetSdelay sr s = .next (s.answer s.draws ⟨4#32, []⟩) :=
  orIllegal_of_false (by rw [h, hfit]; exact Bool.and_false _)

theorem execResetApf_restarts (hrate : validRate sr = true) (hfit : fits s.cfg.lmaxLog2 sr s.apf.sd.bufMs = true) :
    ∃ a n, ApfRestarted s.apf sr s.apf.sd.bufMs a ∧ s.draws ≤ n ∧
      execResetApf sr s = .next ((s.setApf a).answer n ⟨1#32, []⟩) := by
  rw [execResetApf, orIllegal_of_true (by rw [hrate, hfit]; rfl)]
  exact perform_quiet_procedure s.setApf (fun _ => []) (apfReset_spec _ _ (fits_need hfit))

theorem execResetNapf_restarts (hrate : validRate sr = true)
    (houter : fits s.cfg.lmaxLog2 sr s.napf.outer.sd.bufMs = true)
    (hinner : fits s.cfg.lmaxLog2 sr s.napf.inner.sd.bufMs = true) :
    ∃ a n, NapfRestarted s.napf sr s.napf.outer.sd.bufMs s.napf.inner.sd.bufMs a ∧ s.draws ≤ n ∧
      execResetNapf sr s = .next ((s.setNapf a).answer n ⟨1#32, []⟩) := by
  rw [execResetNapf, orIllegal_of_true (by rw [hrate, houter, hinner]; rfl)]
  exact perform_quiet_procedure s.setNapf (fun _ => []) (napfReset_spec _ _ (fits_need houter) (fits_need hinner))

end

/-! ### SETP -/

theorem execSetpSdelay_sets (s : State) : ∃ d n, LineSet s.sdelay s.sdelayStg d ∧ s.draws ≤ n ∧
    execSetpSdelay s = .next ((s.setSdelay d).answer n ⟨1#32, []⟩) :=
  perform_quiet_procedure s.setSdelay (fun _ => []) (sdSet_spec s.sdelay s.sdelayStg)

theorem execSetpApf_sets (s : State) : ∃ a n, ApfSet s.apf s.apfStg a ∧ s.draws ≤ n ∧
    execSetpApf s = .next ((s.setApf a).answer n ⟨1#32, []⟩) :=
  perform_quiet_procedure s.setApf (fun _ => []) (apfSet_spec s.apf s.apfStg)

theorem execSetpNapf_sets (s : State) : ∃ a n, NapfSet s.napf s.napfStg a ∧ s.draws ≤ n ∧
    execSetpNapf s = .next ((s.setNapf a).answer n ⟨1#32, []⟩) :=
  perform_quiet_procedure s.setNapf (fun _ => []) (napfSet_spec s.napf s.napfStg)

end Sys2Proof.Machine

open Sys2Proof Sys2Proof.Machine

/-- Settles O40: SDELAY by `needsCreate` and then by the fit, APF and NAPF by the fit of their memories alone. -/
theorem resetDelayUnits : Obligations.ResetDelayUnits := by
  intro s sr hfin hpos
  have hrate : validRate sr = true := validRate_iff.2 ⟨hfin, hpos⟩
  refine ⟨fun hsame => execResetSdelay_flushes hrate (needsCreate_eq_false_iff.2 hsame), fun hother => ?_,
    execResetApf_restarts hrate, fun hfit => orIllegal_of_false ?apf, fun ⟨ho, hi⟩ => execResetNapf_restarts hrate ho hi,
    fun hfit => orIllegal_of_false ?napf⟩
  · have hneeds := needsCreate_eq_true_iff.2 hother
    exact ⟨execResetSdelay_creates hrate hneeds, execResetSdelay_refuses hneeds⟩
  case apf => rw [hfit, Bool.and_false]
  case napf => rw [Bool.and_assoc, Bool.and_eq_false_iff.2 hfit, Bool.and_false]

/-- Settles O45: SETP of each unit is `sd_set`, `apf_set` or `napf_set` of the staging record, by their specs. -/
theorem setpDelayUnits : Obligations.SetpDelayUnits := fun s =>
  ⟨execSetpSdelay_sets s, execSetpApf_sets s, execSetpNapf_sets s⟩
end

section
/-! PROOFS. The commands that run the SDELAY unit: PROC (spec/47_simple_delay.md R364, R373), WRITE and the three reads (R366 to
R369, R375 to R378). -/

namespace Sys2Proof.Machine

section
variable {s : State}

theorem execProcSdelay_bypasses (h : sdBypass s.sdelay = true) (x : F64) :
    execProcSdelay x s = .next (s.answer s.draws ⟨1#32, [x]⟩) := by
  rw [execProcSdelay, orNotReady_of_true (by rw [h]; rfl), sdProc, if_pos h]
  exact perform_pure_procedure s (x, s.sdelay) (fun r => s.setSdelay r.2) fun r => [r.1]

/-- Off the bypass a step of the line is a read and then a write. -/
theorem LineStep.of_active {d d' : SDelay} {x y : F64} (h : LineStep d x y d')
    (hactive : F64.eq d.delaySamples F64.zero = false) :
    ReadGives d.buf d.delaySamples y ∧ d' = { d with buf := fdbWrite d.buf x } := by
  rwa [LineStep, hactive, if_neg Bool.false_ne_true] at h

theorem execProcSdelay_steps (halloc : s.sdelay.buf.alloc = true) (x : F64) :
    ∃ y d n, LineStep s.sdelay x y d ∧ s.draws ≤ n ∧
      execProcSdelay x s = .next ((s.setSdelay d).answer n ⟨1#32, [y]⟩) := by
  rw [execProcSdelay, orNotReady_of_true (by rw [halloc, Bool.or_true])]
  obtain ⟨⟨y, d⟩, n, hstep, hn, e⟩ := perform_quiet_procedure (s := s) (fun r => s.setSdelay r.2) (fun r => [r.1])
    (sdProc_spec s.sdelay x)
  exact ⟨y, d, n, hstep, hn, e⟩

/-- What the three read commands share: the line's memory exists, and one procedure gives the result word. -/
theorem perform_reads_of_alloc {m : FpM F64} {P : F64 → Prop} (halloc : s.sdelay.buf.alloc = true) (h : m.Quiet P) :
    ∃ y n, P y ∧ s.draws ≤ n ∧
      (if s.sdelay.buf.alloc then perform s (m >>= fun y => pure (s, [y])) else notReady s) =
        .next (s.answer n ⟨1#32, [y]⟩) := by
  rw [orNotReady_of_true halloc]
  exact perform_quiet_procedure (fun _ => s) (fun y => [y]) h

end

end Sys2Proof.Machine

open Sys2Proof Sys2Proof.Machine

/-- Settles O50: the bypass computes nothing, and off it the line reads before it writes. -/
theorem procSdelayReadsThenWrites : Obligations.ProcSdelayReadsThenWrites := by
  refine fun s x => ⟨fun hbypass => execProcSdelay_bypasses hbypass x, fun hactive halloc => ?_⟩
  obtain ⟨y, d, n, hstep, hn, e⟩ := execProcSdelay_steps halloc x
  obtain ⟨hread, rfl⟩ := hstep.of_active hactive
  exact ⟨y, n, hread, hn, e⟩

/-- Settles O57: WRITE is `sd_write`, and the reads are `sd_read`, `sd_readT` and `sd_readP`, by their specs. -/
theorem delayLineAccess : Obligations.DelayLineAccess := fun s halloc =>
  ⟨fun x => (orNotReady_of_true halloc).trans (performed_eq (s.setSdelay (sdWrite s.sdelay x)) []),
    perform_reads_of_alloc halloc (sdRead_spec s.sdelay), fun ms => perform_reads_of_alloc halloc (sdReadT_spec s.sdelay ms),
    fun pct => perform_reads_of_alloc halloc (sdReadP_spec s.sdelay pct)⟩
end

section
/-! PROOFS. A delay line at an integer delay (spec/47_simple_delay.md R364): an integer as a binary64 delay is exact (00_scope.md
R17, 40_common.md R157), every output is an integer read after the writes so far, and such reads go back through the inputs
(41_delay_buffer.md R191, R192). -/

namespace Sys2Proof.Machine

/-! ### Integers as delays -/

/-- `f64(n)` is exact below `2^53`. -/
theorem F64.ofInt_natCast_exact {n : Nat} (h : n < 2 ^ 53) :
    F64.isFinite (F64.ofInt n) = true ∧ F64.value (F64.ofInt n) = n := by
  have hbound : (n : ℚ) * 2 ^ (0 : Int) < Fmt.b64.overflow := by
    have hn : (n : ℚ) < 2 ^ 53 := by exact_mod_cast h
    rw [Fmt.b64_overflow, zpow_zero, mul_one]
    calc (n : ℚ) < 2 ^ 54 - 1 := hn.trans (by norm_num)
      _ ≤ (2 ^ 54 - 1) * 2 ^ 970 := le_mul_of_one_le_right (by norm_num) (one_le_pow₀ one_le_two)
  have hpack : F64.ofInt n = F64.pack false n 0 := by
    rw [ofInt, decide_eq_false (by omega), Int.natAbs_natCast]
  simpa [hpack] using value_pack (s := false) h (by rw [Fmt.b64_qmin]; decide) hbound

theorem F64.trunc_ofInt_natCast {n : Nat} (h : n < 2 ^ 53) : F64.trunc (F64.ofInt n) = n := by
  rw [trunc_toward_zero, (ofInt_natCast_exact h).2, if_pos n.cast_nonneg, Int.floor_natCast]

theorem F64.value_eq_of_eq {a b : F64} (h : F64.eq a b = true) : F64.value a = F64.value b := by
  simp only [F64.eq, Bool.and_eq_true, decide_eq_true_eq] at h
  rw [value_eq_ordered, value_eq_ordered, h.2]

theorem F64.value_zero : F64.value F64.zero = 0 := value_eq_zero_iff.2 rfl

theorem F64.ofInt_natCast_ne_zero {n : Nat} (hpos : 1 ≤ n) (h : n < 2 ^ 53) :
    F64.eq (F64.ofInt n) F64.zero = false := by
  refine Bool.eq_false_iff.2 fun heq => ?_
  have hvalue := value_eq_of_eq heq
  rw [(ofInt_natCast_exact h).2, value_zero, Nat.cast_eq_zero] at hvalue
  omega

/-- An integer delay is in domain up to `2^31 - 2` (40_common.md R157). -/
theorem delayIndex?_ofInt_natCast {n : Nat} (h : n ≤ 2 ^ 31 - 2) : delayIndex? (F64.ofInt n) = some (n : Int) := by
  have hlt : n < 2 ^ 53 := by omega
  rw [delayIndex?, (F64.ofInt_natCast_exact hlt).1, F64.trunc_ofInt_natCast hlt, Bool.true_and, if_pos]
  exact decide_eq_true (by omega)

/-! ### Runs of a line -/

/-- The line reads at the integer delay `i`, neither bypassed nor interpolating. -/
structure SDelay.ReadsAt (d : SDelay) (i : Int) : Prop where
  active : sdBypass d = false
  truncates : d.buf.interp = false
  index : delayIndex? d.delaySamples = some i

theorem SDelay.readsAt_of_ofInt {d : SDelay} {n : Nat} (htrunc : d.buf.interp = false) (hpos : 1 ≤ n)
    (hle : n ≤ 2 ^ 31 - 2) (hdelay : d.delaySamples = F64.ofInt n) : d.ReadsAt n where
  active := by rw [sdBypass, hdelay, F64.ofInt_natCast_ne_zero hpos (by omega)]
  truncates := htrunc
  index := by rw [hdelay, delayIndex?_ofInt_natCast hle]

section
variable {d : SDelay} {i : Int}

/-- A write changes neither the latched delay nor the switch. -/
theorem SDelay.ReadsAt.write (h : d.ReadsAt i) (x : F64) : (sdWrite d x).ReadsAt i :=
  ⟨h.active, h.truncates, h.index⟩

theorem SDelay.ReadsAt.proc_apply (h : d.ReadsAt i) (x : F64) (fx : Fx) :
    (sdProc d x).apply fx = ((fdbReadI d.buf i, sdWrite d x), fx) := by
  simp [sdProc, fdbReadF, h.active, h.truncates, h.index]

/-- Output `n` of a run is the read at `i` after the first `n` inputs are written. -/
theorem SDelay.ReadsAt.run_getElem? (h : d.ReadsAt i) (fx : Fx) (xs : List F64) (n : Nat) (hn : n < xs.length) :
    (sdRun d fx xs).1[n]? = some (fdbReadI ((xs.take n).foldl fdbWrite d.buf) i) := by
  induction xs generalizing d n with
  | nil => exact absurd hn n.not_lt_zero
  | cons x xs ih =>
    rw [sdRun, h.proc_apply]
    cases n with
    | zero => rfl
    | succ n => exact ih (h.write x) n (Nat.lt_of_succ_lt_succ hn)

end

/-! ### Integer reads modulo the length -/

section
variable {l : Nat} {b : Fdb}

/-- An integer read sees its delay modulo the length (20_memory.md R82). -/
theorem Fdb.Ok.readI_emod (hok : b.Ok l) (i : Int) : fdbReadI b (i % b.len) = fdbReadI b i := by
  rw [hok.readI_eq, hok.readI_eq, Int.sub_emod, Int.emod_emod, ← Int.sub_emod]

/-- After the first `n` samples of a run are written, the read at `D` gives the one `D mod L + 1` before sample `n`. -/
theorem Fdb.Ok.readI_foldl_take (hok : b.Ok l) (xs : List F64) (D n : Nat) (hn : n < xs.length)
    (hD : D % b.len + 1 ≤ n) :
    fdbReadI ((xs.take n).foldl fdbWrite b) D = xs[n - (D % b.len + 1)] := by
  have hlen : D % b.len < b.len := Nat.mod_lt _ (Nat.zero_lt_of_lt hok.cursor)
  have htake : (xs.take n).length = n := List.length_take_of_le hn.le
  rw [← (hok.foldl_write _).readI_emod, foldl_fdbWrite_len, ← Int.natCast_emod,
    hok.readI_foldl_write _ _ (by rw [List.length_reverse, htake]; omega) hlen, List.getElem_reverse, List.getElem_take]
  congr 1
  omega

end

end Sys2Proof.Machine

open Sys2Proof.Machine

/-- Settles O34: output `n` is the read at `D` after `n` writes, and below the length `D mod L` is `D`. -/
theorem delayLineDelays : Obligations.DelayLineDelays := by
  intro l d fx xs D hok htrunc hpos hle hdelay
  have hreads := SDelay.readsAt_of_ofInt htrunc hpos hle hdelay
  have hmod : ∀ n (h : n < xs.length), D % d.buf.len + 1 ≤ n →
      (sdRun d fx xs).1[n]? = some (xs[n - (D % d.buf.len + 1)]'(by omega)) := fun n hn hD => by
    rw [hreads.run_getElem? fx xs n hn, hok.readI_foldl_take xs D n hn hD]
  refine ⟨fun hlen n hn hD => ?_, hmod⟩
  have hsmall : D % d.buf.len = D := Nat.mod_eq_of_lt hlen
  simpa only [hsmall, Nat.sub_sub, Nat.add_comm 1 D] using hmod n hn (by rwa [hsmall])
end

section
/-! PROOFS. The commands that run an all-pass section: PROC.APF (spec/48_allpass.md R410 to R413, R433) and PROC.NAPF (R423,
R437), on the bypass and off it. -/

namespace Sys2Proof.Machine

/-- The shape of a PROC command: the procedure gives the output sample and its unit's next state. -/
theorem perform_step {α : Type} {s : State} {m : FpM (F64 × α)} {P : F64 → α → Bool → Prop} (up : α → State)
    (h : m.Spec fun r uf => P r.1 r.2 uf) :
    ∃ y a uf n, P y a uf ∧ s.draws ≤ n ∧
      perform s (m >>= fun r => pure (up r.2, [r.1])) = .next ((up a).answer n ⟨handledStatus uf, [y]⟩) := by
  obtain ⟨⟨y, a⟩, uf, n, hstep, hn, e⟩ := perform_procedure (s := s) (fun r => up r.2) (fun r => [r.1]) h
  exact ⟨y, a, uf, n, hstep, hn, e⟩

theorem apfProc_of_bypass {a : Apf} (h : sdBypass a.sd = true) (p : Params) (x : F64) : apfProc p a x = pure (x, a) := by
  rw [apfProc, if_pos h]

theorem napfProc_of_bypass {n : Napf} (h : sdBypass n.outer.sd = true) (p : Params) (x : F64) :
    napfProc p n x = pure (x, n) := by
  rw [napfProc, if_pos h]

/-- A bypassed outer section leaves both memories alone, so neither need exist. -/
theorem napfReady_of_bypass {n : Napf} (h : sdBypass n.outer.sd = true) : napfReady n = true := by
  rw [napfReady, h, Bool.true_or]

/-- The inner section needs a memory only where it is not bypassed itself. -/
theorem napfReady_of_alloc {n : Napf} (houter : n.outer.sd.buf.alloc = true)
    (hinner : sdBypass n.inner.sd = true ∨ n.inner.sd.buf.alloc = true) : napfReady n = true := by
  rw [napfReady, houter, Bool.true_and, Bool.or_eq_true_iff.2 hinner, Bool.or_true]

section
variable {s : State}

theorem execProcApf_bypasses (h : sdBypass s.apf.sd = true) (x : F64) :
    execProcApf x s = .next (s.answer s.draws ⟨1#32, [x]⟩) := by
  rw [execProcApf, orNotReady_of_true (by rw [h, Bool.true_or]), apfProc_of_bypass h]
  exact perform_pure_procedure s (x, s.apf) (fun r => s.setApf r.2) fun r => [r.1]

/-- UF is the flush of the damping filter or of the output (40_common.md R154). -/
theorem execProcApf_steps (halloc : s.apf.sd.buf.alloc = true) (x : F64) :
    ∃ y a uf n, ApfStep s.cfg s.apf x y a uf ∧ s.draws ≤ n ∧
      execProcApf x s = .next ((s.setApf a).answer n ⟨handledStatus uf, [y]⟩) := by
  rw [execProcApf, orNotReady_of_true (by rw [halloc, Bool.or_true])]
  exact perform_step s.setApf (apfProc_spec s.cfg s.apf x)

theorem execProcNapf_bypasses (h : sdBypass s.napf.outer.sd = true) (x : F64) :
    execProcNapf x s = .next (s.answer s.draws ⟨1#32, [x]⟩) := by
  rw [execProcNapf, orNotReady_of_true (napfReady_of_bypass h), napfProc_of_bypass h]
  exact perform_pure_procedure s (x, s.napf) (fun r => s.setNapf r.2) fun r => [r.1]

/-- UF is a flush of the inner section or of the cell's output. -/
theorem execProcNapf_steps (hready : napfReady s.napf = true) (x : F64) :
    ∃ y a uf n, NapfStep s.cfg s.napf x y a uf ∧ s.draws ≤ n ∧
      execProcNapf x s = .next ((s.setNapf a).answer n ⟨handledStatus uf, [y]⟩) := by
  rw [execProcNapf, orNotReady_of_true hready]
  exact perform_step s.setNapf (napfProc_spec s.cfg s.napf x)

end

end Sys2Proof.Machine

open Sys2Proof.Machine

/-- Settles O51: the bypass computes nothing, and off it each command is `apf_proc` or `napf_proc`, by their specs. -/
theorem procAllpassSections : Obligations.ProcAllpassSections := fun _ x =>
  ⟨fun hbypass => execProcApf_bypasses hbypass x, fun _ halloc => execProcApf_steps halloc x,
    fun hbypass => execProcNapf_bypasses hbypass x,
    fun _ houter hinner => execProcNapf_steps (napfReady_of_alloc houter hinner) x⟩
end

section
/-! PROOFS. RESET of the units without a rate-dependent memory (spec/70_reset_and_hazards.md R541; 41_delay_buffer.md R205,
42_lfo.md R233, 43_biquad.md R265, 44_filter_designer.md R302, 45_shelving.md R330, 46_one_pole.md R345). -/

namespace Sys2Proof.Machine

section
variable {s : State} {sr : F64}

/-- The shape of a RESET without arithmetic: behind the test of the rate, one update of the state. -/
theorem orIllegal_performs {c : Bool} (h : c = true) (t : State) (ht : t.draws = s.draws) :
    (if c then performed t [] else illegal s) = .next (t.answer s.draws ⟨1#32, []⟩) := by
  rw [orIllegal_of_true h, performed_eq, ht]

/-- An uncreated FDB is left as it is (41_delay_buffer.md R205). -/
theorem execResetFdb_flushes (hrate : validRate sr = true) : execResetFdb sr s =
    .next ((s.setFdb (if s.fdb.alloc then { s.fdb with mem := [] } else s.fdb)).answer s.draws ⟨1#32, []⟩) := by
  rw [execResetFdb, orIllegal_of_true hrate, performed_eq]
  cases s.fdb.alloc <;> rfl

theorem execResetLfo_restarts (hrate : validRate sr = true) : ∃ o n, LfoRestarted s.lfo sr o ∧ s.draws ≤ n ∧
    execResetLfo sr s = .next ((s.setLfo o).answer n ⟨1#32, []⟩) := by
  rw [execResetLfo, orIllegal_of_true hrate]
  exact perform_quiet_procedure s.setLfo (fun _ => []) (lfoReset_spec s.lfo sr)

end

end Sys2Proof.Machine

open Sys2Proof Sys2Proof.Machine

/-- Settles O39: behind the test of the rate each RESET is the `reset` procedure of its unit. -/
theorem resetPlainUnits : Obligations.ResetPlainUnits := by
  intro s sr hfin hpos
  have hrate : validRate sr = true := validRate_iff.2 ⟨hfin, hpos⟩
  exact ⟨orIllegal_performs hrate (s.setBiquad (bqReset s.biquad)) rfl, execResetFdb_flushes hrate,
    execResetLfo_restarts hrate, orIllegal_performs hrate (s.setOnepole (opReset s.onepole)) rfl,
    orIllegal_performs hrate (s.setFilter (afReset s.filter sr)) rfl,
    orIllegal_performs hrate (s.setShelf (shReset s.shelf sr)) rfl⟩
end

section
/-! PROOFS. Commands that need a memory never created (spec/60_exceptions.md R503). -/

namespace Sys2Proof.Machine

/-- A command whose memory does not exist (60_exceptions.md R503). -/
theorem orNotReady_of_false {c : Bool} {o : Out} {s : State} (h : c = false) :
    (if c then o else notReady s) = .next (s.answer s.draws ⟨8#32, []⟩) := by
  rw [h, if_neg Bool.false_ne_true, notReady_eq]

theorem tankReady_eq_false_iff {t : Tank} : tankReady t = false ↔ ∃ b ∈ tankBuffers t, b.alloc = false := by
  simp only [tankReady, List.all_eq_false, Bool.not_eq_true]

/-- Off the bypass of the outer section, a cell is not ready where its memory is missing, or that of an inner section which
is not bypassed (48_allpass.md R437). -/
theorem napfReady_eq_false {n : Napf} (houter : sdBypass n.outer.sd = false)
    (h : n.outer.sd.buf.alloc = false ∨ sdBypass n.inner.sd = false ∧ n.inner.sd.buf.alloc = false) :
    napfReady n = false := by
  rw [napfReady, houter, Bool.false_or, Bool.and_eq_false_iff, Bool.or_eq_false_iff]
  exact h

section
variable {s : State}

theorem execReadiFdb_notReady (halloc : s.fdb.alloc = false) {d : Word64} (h : -2 ^ 31 ≤ d.toInt ∧ d.toInt ≤ 2 ^ 31 - 1) :
    execReadiFdb d s = .next (s.answer s.draws ⟨8#32, []⟩) := by
  rw [execReadiFdb, integerDelay?_of_mem h]
  exact orNotReady_of_false halloc

/-- A frame of a legal form on f32 words comes down to the test of the memories (30_encoding.md R124). -/
theorem execFrameTank_eq {sel : BitVec 8} {ops : List Word64} {inCh outCh : Nat}
    (hform : frameForm? sel ops.length = some (inCh, outCh)) (hwords : ∀ w ∈ ops, w.toNat < 2 ^ 32) :
    execFrameTank sel ops s = if tankReady s.tank then
        perform s (rtFrame s.cfg s.tank inCh outCh (f32Of (ops.getD 0 0)) (f32Of (ops.getD 1 0)) >>= fun r =>
          pure (s.setTank r.2, r.1.map f32Word))
      else notReady s := by
  rw [execFrameTank, hform]
  exact orIllegal_of_true (all_isF32Word_iff.2 hwords)

theorem execFrameTank_notReady (hready : tankReady s.tank = false) {sel : BitVec 8} {ops : List Word64}
    (hform : (frameForm? sel ops.length).isSome) (hwords : ∀ w ∈ ops, w.toNat < 2 ^ 32) :
    execFrameTank sel ops s = .next (s.answer s.draws ⟨8#32, []⟩) := by
  obtain ⟨⟨inCh, outCh⟩, hio⟩ := Option.isSome_iff_exists.1 hform
  rw [execFrameTank_eq hio hwords, orNotReady_of_false hready]

end

end Sys2Proof.Machine

open Sys2Proof Sys2Proof.Machine

/-- Settles O59: behind a command's own checks stands the test of the memories that it would touch. -/
theorem notReadyWithoutMemory : Obligations.NotReadyWithoutMemory := by
  refine fun s => ⟨fun halloc x => ?fdb, fun halloc x => ?sdelay, fun halloc hactive x => ?apf,
    fun hactive halloc x => ?napf, fun hmissing => ?tank⟩
  case fdb =>
    exact ⟨orNotReady_of_false halloc, fun d h => execReadiFdb_notReady halloc h, orNotReady_of_false halloc⟩
  case sdelay =>
    exact ⟨fun hactive => orNotReady_of_false (Bool.or_eq_false_iff.2 ⟨hactive, halloc⟩), orNotReady_of_false halloc,
      orNotReady_of_false halloc, orNotReady_of_false halloc, orNotReady_of_false halloc⟩
  case apf => exact orNotReady_of_false (Bool.or_eq_false_iff.2 ⟨hactive, halloc⟩)
  case napf => exact orNotReady_of_false (napfReady_eq_false hactive halloc)
  case tank =>
    have hready : tankReady s.tank = false := tankReady_eq_false_iff.2 hmissing
    exact ⟨fun x => orNotReady_of_false hready, fun sel ops hsel hops hwords =>
      execFrameTank_notReady hready (frameForm?_isSome_iff.2 ⟨hsel, hops⟩) hwords⟩
end

section
/-! PROOFS. RESET and SETP of the tank (spec/49_reverb_tank.md R452 to R454, R475, R476). -/

namespace Sys2Proof.Machine

theorem forall_mem_tankBuffers {t : Tank} {P : Fdb → Prop} : (∀ b ∈ tankBuffers t, P b) ↔
    P t.pre.buf ∧ (∀ i, P (t.bd.get i).buf) ∧ (∀ i, P (t.napf.get i).outer.sd.buf) ∧
      ∀ i, P (t.napf.get i).inner.sd.buf := by
  simp only [tankBuffers, List.forall_mem_cons, List.forall_mem_append, List.forall_mem_map, Quad.forall_mem_toList]

theorem rtFits_eq_false_iff {p : Params} {sr : F64} : rtFits p sr = false ↔
    fits p.lmaxLog2 sr p.preBufMs = false ∨ fits p.lmaxLog2 sr p.branchBufMs = false ∨
      fits p.lmaxLog2 sr p.apfBufMs = false := by
  rw [rtFits, Bool.and_eq_false_iff, Bool.and_eq_false_iff, or_assoc]

/-- A memory just created: no word written, the cursor at the start (41_delay_buffer.md R190). -/
theorem LineCreated.buffer_fresh {d d' : SDelay} {sr ms : F64} (h : LineCreated d sr ms d') :
    d'.buf.alloc = true ∧ d'.buf.w = 0 ∧ d'.buf.mem = [] := by
  obtain ⟨_, _, _, _, rfl⟩ := h
  exact ⟨rfl, rfl, rfl⟩

/-- The restart of a tank creates its thirteen memories (49_reverb_tank.md R452). -/
theorem TankRestarted.buffers_fresh {p : Params} {t t' : Tank} {sr : F64} (h : TankRestarted p t sr t') :
    ∀ b ∈ tankBuffers t', b.alloc = true ∧ b.w = 0 ∧ b.mem = [] := by
  obtain ⟨hpre, hbranch, _⟩ := h
  refine forall_mem_tankBuffers.2 ⟨hpre.buffer_fresh, fun i => ?line, fun i => ?outer, fun i => ?inner⟩
  all_goals obtain ⟨hline, ⟨⟨_, houter, _⟩, ⟨_, hinner, _⟩, _⟩, _⟩ := hbranch i
  case line => exact hline.buffer_fresh
  case outer => exact houter.buffer_fresh
  case inner => exact hinner.buffer_fresh

theorem execResetTank_restarts {s : State} {sr : F64} (hrate : validRate sr = true) (hfit : rtFits s.cfg sr = true) :
    ∃ t n, TankRestarted s.cfg s.tank sr t ∧ s.draws ≤ n ∧
      execResetTank sr s = .next ((s.setTank t).answer n ⟨1#32, []⟩) := by
  rw [execResetTank, orIllegal_of_true (by rw [hrate, hfit]; rfl)]
  exact perform_quiet_procedure s.setTank (fun _ => []) (rtReset_spec s.cfg s.tank sr hfit)

end Sys2Proof.Machine

open Sys2Proof Sys2Proof.Machine

/-- Settles O41: RESET.TANK tests the rate and the three lengths, and then is `rt_reset`, whose lines are all created. -/
theorem resetTankCreatesMemories : Obligations.ResetTankCreatesMemories := by
  intro s sr hfin hpos
  have hrate : validRate sr = true := validRate_iff.2 ⟨hfin, hpos⟩
  refine ⟨fun ⟨hpre, hbranch, hapf⟩ => ?fits, fun hunfit => orIllegal_of_false ?unfit⟩
  case fits =>
    have hfit : rtFits s.cfg sr = true := by rw [rtFits, hpre, hbranch, hapf]; rfl
    obtain ⟨t, n, ht, hn, e⟩ := execResetTank_restarts hrate hfit
    exact ⟨t, n, ht, ht.buffers_fresh, hn, e⟩
  case unfit => rw [rtFits_eq_false_iff.2 hunfit, Bool.and_false]

/-- Settles O46: SETP.TANK is `rt_set` of the staging record, by its spec. -/
theorem setpTankConfiguresBranches : Obligations.SetpTankConfiguresBranches := fun s =>
  perform_quiet_procedure s.setTank (fun _ => []) (rtSet_spec s.cfg s.tank s.tankStg)
end

section
/-! PROOFS. PROC.TANK (spec/49_reverb_tank.md R481) and the frame that it runs. -/

namespace Sys2Proof.Machine

/-- A mono frame has one output sample. -/
theorem FrameStep.mono_outs {p : Params} {t t' : Tank} {inCh : Nat} {i0 i1 : F32} {outs : List F32} {uf : Bool}
    (h : FrameStep p t inCh 1 i0 i1 outs t' uf) : ∃ o, outs = [o] :=
  List.length_eq_one_iff.1 (h.length_outs (.inl rfl))

/-- The mono frame narrows its input, runs `rt_frame` and widens the one output sample. -/
theorem monoFrame_gives (x : F64) (p : Params) (t : Tank) : (monoFrame x p t).Spec fun r uf =>
    ∃ i o, Gives32 (F64.toF32? x) i ∧ FrameStep p t 1 1 i 0#32 [o] r.1 uf ∧ Gives (F32.toF64? o) r.2 :=
  quiet_step (narrow_spec x) fun i hi => spec_bind (rtFrame_spec p t 1 1 i 0#32) fun ⟨outs, t'⟩ u hframe => by
    obtain ⟨o, rfl⟩ := hframe.mono_outs
    exact quiet_step (widen_spec o) fun y hy => spec_pure ⟨i, o, hi, by rwa [Bool.or_false], hy⟩

theorem narrow_of_eq_some {x : F64} {i : F32} (h : F64.toF32? x = some i) : narrow x = pure i := by
  rw [narrow, h, ofOp32]

theorem widen_of_eq_some {o : F32} {y : F64} (h : F32.toF64? o = some y) : widen o = pure y := by
  rw [widen, h, ofOp]

theorem f32Word_toNat (v : F32) : (f32Word v).toNat = v.toNat := by
  rw [f32Word, BitVec.toNat_ofNat, Nat.mod_eq_of_lt (v.isLt.trans (by decide))]

theorem f32Of_f32Word (v : F32) : f32Of (f32Word v) = v := by
  rw [f32Of, f32Word_toNat, BitVec.ofNat_toNat, BitVec.setWidth_eq]

section
variable {s : State}

/-- A command that runs one procedure, by what the procedure leaves. -/
theorem perform_of_apply {α : Type} {m : FpM α} {a : α} {fx : Fx} (h : m.apply s.fx = (a, fx)) (up : α → State)
    (rs : α → List Word64) : perform s (m >>= fun a => pure (up a, rs a)) =
      .next ((up a).answer fx.draws ⟨handledStatus fx.uf, rs a⟩) := by
  rw [perform, FpM.apply_bind, h, FpM.apply_pure, statusPerformed_eq]

theorem execProcTank_of_ready (hready : tankReady s.tank = true) (x : F64) : execProcTank x s =
    perform s (monoFrame x s.cfg s.tank >>= fun r => pure (s.setTank r.1, [r.2])) := by
  rw [execProcTank_eq]
  exact orNotReady_of_true hready

theorem execProcTank_frames (hready : tankReady s.tank = true) (x : F64) :
    ∃ i o y t uf n, Gives32 (F64.toF32? x) i ∧ FrameStep s.cfg s.tank 1 1 i 0#32 [o] t uf ∧ Gives (F32.toF64? o) y ∧
      s.draws ≤ n ∧ execProcTank x s = .next ((s.setTank t).answer n ⟨handledStatus uf, [y]⟩) := by
  rw [execProcTank_of_ready hready]
  obtain ⟨⟨t, y⟩, uf, n, ⟨i, o, hi, hframe, hy⟩, hn, e⟩ := perform_procedure (s := s) (fun r => s.setTank r.1)
    (fun r => [r.2]) (monoFrame_gives x s.cfg s.tank)
  exact ⟨i, o, y, t, uf, n, hi, hframe, hy, hn, e⟩

/-- Without NaNs the conversions take no free value, so the mono frame is the frame itself. -/
theorem monoFrame_apply {x : F64} {i o : F32} {y : F64} {p : Params} {t t' : Tank} {fx fx' : Fx}
    (hx : F64.toF32? x = some i) (hy : F32.toF64? o = some y)
    (hframe : (rtFrame p t 1 1 i 0#32).apply fx = (([o], t'), fx')) :
    (monoFrame x p t).apply fx = ((t', y), fx') := by
  rw [monoFrame, narrow_of_eq_some hx, pure_bind, FpM.apply_bind, hframe]
  dsimp only [List.headD_cons]
  rw [widen_of_eq_some hy, pure_bind, FpM.apply_pure]

theorem execProcTank_of_frame (hready : tankReady s.tank = true) {x : F64} {i o : F32} {y : F64} {t : Tank} {fx : Fx}
    (hx : F64.toF32? x = some i) (hy : F32.toF64? o = some y)
    (hframe : (rtFrame s.cfg s.tank 1 1 i 0#32).apply s.fx = (([o], t), fx)) :
    execProcTank x s = .next ((s.setTank t).answer fx.draws ⟨handledStatus fx.uf, [y]⟩) := by
  rw [execProcTank_of_ready hready]
  exact perform_of_apply (monoFrame_apply hx hy hframe) (fun r => s.setTank r.1) fun r => [r.2]

theorem execFrameTank_of_frame (hready : tankReady s.tank = true) {i o : F32} {t : Tank} {fx : Fx}
    (hframe : (rtFrame s.cfg s.tank 1 1 i 0#32).apply s.fx = (([o], t), fx)) :
    execFrameTank 0x11#8 [i.setWidth 64] s =
      .next ((s.setTank t).answer fx.draws ⟨handledStatus fx.uf, [o.setWidth 64]⟩) := by
  have hword : ∀ w ∈ [f32Word i], w.toNat < 2 ^ 32 := by
    simpa only [List.forall_mem_singleton, f32Word_toNat] using i.isLt
  rw [← f32Of_f32Word i] at hframe
  rw [← f32Word_eq, ← f32Word_eq, execFrameTank_eq (inCh := 1) (outCh := 1) rfl hword, orNotReady_of_true hready]
  exact perform_of_apply hframe (fun r => s.setTank r.2) fun r => r.1.map f32Word

end

end Sys2Proof.Machine

open Sys2Proof Sys2Proof.Machine

/-- Settles O53: PROC.TANK is the mono frame, and both commands run `rt_frame` on the same sample from the same effects. -/
theorem procTankIsMonoFrame : Obligations.ProcTankIsMonoFrame := by
  intro s x hbuffers
  have hready : tankReady s.tank = true := tankReady_eq_true_iff.2 hbuffers
  refine ⟨execProcTank_frames hready x, fun i hx => ?_⟩
  obtain ⟨uf, hstep⟩ := (rtFrame_spec s.cfg s.tank 1 1 i 0#32).result s.fx
  obtain ⟨o, ho⟩ := hstep.mono_outs
  generalize hframe : (rtFrame s.cfg s.tank 1 1 i 0#32).apply s.fx = r at ho
  obtain ⟨⟨outs, t⟩, fx⟩ := r
  obtain rfl : outs = [o] := ho
  exact ⟨o, t, fx.uf, fx.draws, execFrameTank_of_frame hready hframe, fun y hy =>
    execProcTank_of_frame hready hx hy hframe⟩
end

section
/-! PROOFS. The read commands (spec/60_exceptions.md R524, 41_delay_buffer.md R194). -/

namespace Sys2Proof.Machine

/-- `o` ends in the state `s` with an answer, and free values taken at most. -/
def OnlyAnswers (s : State) (o : Out) : Prop := ∃ n r, o = .next (s.answer n r)

section
variable {s : State}

theorem onlyAnswers_performed (rs : List Word64) : OnlyAnswers s (performed s rs) := ⟨_, _, rfl⟩

theorem onlyAnswers_resultOrIllegal (r : Option Word64) : OnlyAnswers s (resultOrIllegal s r) := by
  cases r with
  | none => exact ⟨_, _, illegal_eq s⟩
  | some v => exact onlyAnswers_performed [v]

/-- A procedure whose result is only answered. -/
theorem onlyAnswers_procedure {m : FpM F64} : OnlyAnswers s (perform s (m >>= fun y => pure (s, [y]))) := ⟨_, _, rfl⟩

theorem onlyAnswers_orNotReady {c : Bool} {o : Out} (h : OnlyAnswers s o) :
    OnlyAnswers s (if c then o else notReady s) := by
  cases c with
  | false => exact ⟨_, _, notReady_eq s⟩
  | true => exact h

theorem onlyAnswers_execReadiFdb (d : Word64) : OnlyAnswers s (execReadiFdb d s) := by
  unfold execReadiFdb
  cases integerDelay? d with
  | none => exact ⟨_, _, illegal_eq s⟩
  | some i => exact onlyAnswers_orNotReady (onlyAnswers_performed _)

end

/-- Every read command leaves the state but for its answer. -/
theorem exec_onlyAnswers {i : Instr} (h : i.isRead = true) (s : State) : OnlyAnswers s (exec i s) := by
  cases i with
  | getpTank | getpBiquad | getpFdb | getpLfo | getpOnepole | getpSdelay | getpApf | getpNapf | getpFilter | getpShelf
  | bqrcBiquad | flrcFilter => exact onlyAnswers_resultOrIllegal _
  | canframeTank | canframeBiquad | canframeFdb | canframeLfo | canframeOnepole | canframeSdelay | canframeApf
  | canframeNapf | canframeFilter | canframeShelf => exact onlyAnswers_performed _
  | bqgetsBiquad => exact onlyAnswers_procedure
  | readiFdb d => exact onlyAnswers_execReadiFdb d
  | readfFdb | sdreadSdelay | sdreadtSdelay | sdreadpSdelay => exact onlyAnswers_orNotReady onlyAnswers_procedure
  | _ => cases h

end Sys2Proof.Machine

open Sys2Proof Sys2Proof.Machine

/-- Settles O15: the one outcome of a read command is the state with an answer. -/
theorem readCommandsChangeNothing : Obligations.ReadCommandsChangeNothing := by
  intro i s t hread h
  obtain ⟨n, r, e⟩ := exec_onlyAnswers hread s
  exact ⟨n, r, Host.Outcome.next.inj (h.symm.trans e)⟩
end

section
/-! PROOFS. A created delay memory stays created (spec/60_exceptions.md R503; 41_delay_buffer.md R190, R196): procedure by
procedure, unit by unit, and then for every command. -/

namespace Sys2Proof.Machine

/-! ### Delay lines and sections -/

/-- Where the first buffer is created, the second is. -/
def Fdb.Stays (b b' : Fdb) : Prop := b.alloc = true → b'.alloc = true

theorem LineCreated.stays {d d' : SDelay} {sr ms : F64} (h : LineCreated d sr ms d') : d.buf.Stays d'.buf :=
  fun _ => h.buffer_fresh.1

theorem LineSet.stays {d d' : SDelay} {r : SDelayRec} (h : LineSet d r d') : d.buf.Stays d'.buf := by
  obtain ⟨_, _, rfl⟩ := h
  exact id

theorem LineStep.stays {d d' : SDelay} {x y : F64} (h : LineStep d x y d') : d.buf.Stays d'.buf := by
  unfold LineStep at h
  split at h
  all_goals
    obtain ⟨_, rfl⟩ := h
    exact id

/-- RESET creates the memory anew or flushes it (47_simple_delay.md R361). -/
theorem sdReset_stays {l : Nat} {d : SDelay} {sr : F64} (h : needsCreate d sr = false ∨ fits l sr d.bufMs = true) :
    (sdReset d sr).Quiet fun d' => d.buf.Stays d'.buf := by
  cases hneeds : needsCreate d sr with
  | false =>
    rw [sdReset_of_not_needsCreate hneeds]
    exact quiet_val id
  | true =>
    rw [sdReset_of_needsCreate hneeds]
    have hfit : fits l sr d.bufMs = true := h.resolve_left (by simp [hneeds])
    exact quiet_mono (sdCreate_spec _ _ _ (fits_need hfit)) fun _ h => h.stays

theorem ApfStep.stays {p : Params} {a a' : Apf} {x y : F64} {uf : Bool} (h : ApfStep p a x y a' uf) :
    a.sd.buf.Stays a'.sd.buf := by
  unfold ApfStep at h
  split at h
  · obtain ⟨_, rfl, _⟩ := h
    exact id
  · obtain ⟨_, _, _, _, _, _, _, _, _, _, _, _, rfl⟩ := h
    exact id

/-- Both memories of a nested cell stay created. -/
structure Napf.Stays (n n' : Napf) : Prop where
  outer : n.outer.sd.buf.Stays n'.outer.sd.buf
  inner : n.inner.sd.buf.Stays n'.inner.sd.buf

theorem NapfSet.stays {n n' : Napf} {r : NapfRec} (h : NapfSet n r n') : n.Stays n' := by
  obtain ⟨⟨houter, _⟩, ⟨hinner, _⟩, _⟩ := h
  exact ⟨houter.stays, hinner.stays⟩

theorem NapfRestarted.stays {n n' : Napf} {sr mo mi : F64} (h : NapfRestarted n sr mo mi n') : n.Stays n' := by
  obtain ⟨⟨_, houter, _⟩, ⟨_, hinner, _⟩, _⟩ := h
  exact ⟨houter.stays, hinner.stays⟩

theorem NapfStep.stays {p : Params} {n n' : Napf} {x y : F64} {uf : Bool} (h : NapfStep p n x y n' uf) : n.Stays n' := by
  unfold NapfStep at h
  split at h
  · obtain ⟨_, rfl, _⟩ := h
    exact ⟨id, id⟩
  · obtain ⟨_, _, _, _, _, _, _, _, _, hinner, _, _, rfl⟩ := h
    exact ⟨id, hinner.stays⟩

/-! ### The tank -/

/-- The thirteen memories of the tank stay created. -/
structure Tank.Stays (t t' : Tank) : Prop where
  pre : t.pre.buf.Stays t'.pre.buf
  lines : ∀ i, (t.bd.get i).buf.Stays (t'.bd.get i).buf
  cells : ∀ i, (t.napf.get i).Stays (t'.napf.get i)

theorem TankRestarted.stays {p : Params} {t t' : Tank} {sr : F64} (h : TankRestarted p t sr t') : t.Stays t' := by
  obtain ⟨hpre, hbranch, _⟩ := h
  refine ⟨hpre.stays, fun i => ?_, fun i => ?_⟩ <;> obtain ⟨hline, hcell, _⟩ := hbranch i
  · exact hline.stays
  · exact hcell.stays

theorem TankSet.stays {p : Params} {t t' : Tank} {r : TankRec} (h : TankSet p t r t') : t.Stays t' := by
  obtain ⟨_, _, hpre, ⟨_, _, _, _, _, _, _, _, hbranch⟩, _⟩ := h
  refine ⟨hpre.stays, fun i => ?_, fun i => ?_⟩
  · obtain ⟨_, _, _, _, hline⟩ := hbranch i
    exact hline.stays
  · obtain ⟨_, ⟨_, _, _, _, hcell⟩, _⟩ := hbranch i
    exact hcell.stays

theorem FrameStep.stays {p : Params} {t t' : Tank} {inCh outCh : Nat} {i0 i1 : F32} {outs : List F32} {uf : Bool}
    (h : FrameStep p t inCh outCh i0 i1 outs t' uf) : t.Stays t' := by
  obtain ⟨_, _, _, _, hgraph⟩ := h.graph
  obtain ⟨⟨_, _, hpre⟩, hbranch, _⟩ := hgraph.parts
  refine ⟨hpre.stays, fun i => ?_, fun i => ?_⟩ <;>
    obtain ⟨_, _, _, _, _, _, _, _, _, _, _, hcell, _, hline, _⟩ := hbranch i
  · exact hline.stays
  · exact hcell.stays

theorem Quad.forall₂_toList {α β : Type} {R : α → β → Prop} {q : Quad α} {q' : Quad β} (h : ∀ i, R (q.get i) (q'.get i)) :
    List.Forall₂ R q.toList q'.toList :=
  .cons (h 0) (.cons (h 1) (.cons (h 2) (.cons (h 3) .nil)))

theorem Tank.Stays.buffers {t t' : Tank} (h : t.Stays t') : List.Forall₂ Fdb.Stays (tankBuffers t) (tankBuffers t') := by
  have hmap {α : Type} {q q' : Quad α} {f : α → Fdb} (hq : ∀ i, (f (q.get i)).Stays (f (q'.get i))) :
      List.Forall₂ Fdb.Stays (q.toList.map f) (q'.toList.map f) := by
    rw [List.forall₂_map_left_iff, List.forall₂_map_right_iff]
    exact Quad.forall₂_toList hq
  exact .cons h.pre (List.rel_append (hmap h.lines)
    (List.rel_append (hmap fun i => (h.cells i).outer) (hmap fun i => (h.cells i).inner)))

/-! ### The block -/

/-- The delay memories of the block stay created. -/
def State.Stays (s t : State) : Prop := List.Forall₂ Fdb.Stays s.buffers t.buffers

theorem forall₂_stays_refl (bs : List Fdb) : List.Forall₂ Fdb.Stays bs bs := List.forall₂_same.2 fun _ _ => id

theorem State.Stays.refl (s : State) : s.Stays s := forall₂_stays_refl _

section
variable {s : State}

theorem State.stays_setFdb {b : Fdb} (h : s.fdb.Stays b) : s.Stays (s.setFdb b) := .cons h (forall₂_stays_refl _)

theorem State.stays_setSdelay {d : SDelay} (h : s.sdelay.buf.Stays d.buf) : s.Stays (s.setSdelay d) :=
  .cons id (.cons h (forall₂_stays_refl _))

theorem State.stays_setApf {a : Apf} (h : s.apf.sd.buf.Stays a.sd.buf) : s.Stays (s.setApf a) :=
  .cons id (.cons id (.cons h (forall₂_stays_refl _)))

theorem State.stays_setNapf {n : Napf} (h : s.napf.Stays n) : s.Stays (s.setNapf n) :=
  .cons id (.cons id (.cons id (.cons h.outer (.cons h.inner (forall₂_stays_refl _)))))

theorem State.stays_setTank {t : Tank} (h : s.tank.Stays t) : s.Stays (s.setTank t) :=
  .cons id (.cons id (.cons id (.cons id (.cons id h.buffers))))

/-! ### Answers -/

/-- `o` ends in a state whose memories stay created. -/
def KeepsMemories (s : State) (o : Out) : Prop := ∃ t, o = .next t ∧ s.Stays t

theorem OnlyAnswers.keepsMemories {o : Out} (h : OnlyAnswers s o) : KeepsMemories s o := by
  obtain ⟨n, r, rfl⟩ := h
  exact ⟨_, rfl, .refl s⟩

theorem keepsMemories_illegal : KeepsMemories s (illegal s) := ⟨_, illegal_eq s, .refl s⟩

theorem keepsMemories_notReady : KeepsMemories s (notReady s) := ⟨_, notReady_eq s, .refl s⟩

theorem keepsMemories_performed {t : State} {rs : List Word64} (h : s.Stays t := by exact .refl _) :
    KeepsMemories s (performed t rs) := ⟨_, performed_eq t rs, h⟩

/-- A command that runs one procedure. -/
theorem keepsMemories_procedure {α : Type} {m : FpM α} {P : α → Bool → Prop} {up : α → State} {rs : α → List Word64}
    (h : m.Spec P) (hup : ∀ a uf, P a uf → s.Stays (up a)) :
    KeepsMemories s (perform s (m >>= fun a => pure (up a, rs a))) := by
  obtain ⟨a, uf, n, hP, -, e⟩ := perform_procedure (s := s) up rs h
  exact ⟨_, e, hup a uf hP⟩

/-- A command that runs one procedure on a unit without a memory. -/
theorem keepsMemories_elsewhere {α : Type} {m : FpM α} {up : α → State} {rs : α → List Word64}
    (hup : ∀ a, s.Stays (up a) := by exact fun _ => .refl _) :
    KeepsMemories s (perform s (m >>= fun a => pure (up a, rs a))) := ⟨_, rfl, hup _⟩

theorem keepsMemories_updateOrIllegal {α : Type} (r : Option α) {up : α → State}
    (hup : ∀ a, s.Stays (up a) := by exact fun _ => .refl _) : KeepsMemories s (updateOrIllegal s (r.map up)) := by
  cases r with
  | none => exact keepsMemories_illegal
  | some a => exact keepsMemories_performed (hup a)

theorem keepsMemories_orIllegal {c : Bool} {o : Out} (h : c = true → KeepsMemories s o) :
    KeepsMemories s (if c then o else illegal s) := by
  cases c with
  | false => exact keepsMemories_illegal
  | true => exact h rfl

theorem keepsMemories_orNotReady {c : Bool} {o : Out} (h : c = true → KeepsMemories s o) :
    KeepsMemories s (if c then o else notReady s) := by
  cases c with
  | false => exact keepsMemories_notReady
  | true => exact h rfl

theorem keepsMemories_frameNotHandled (sel : BitVec 8) (ops : List Word64) :
    KeepsMemories s (frameNotHandled sel ops s) := by
  unfold frameNotHandled
  cases frameForm? sel ops.length with
  | none => exact keepsMemories_illegal
  | some io => exact ⟨_, notHandled_eq s, .refl s⟩

end

/-! ### Every command -/

section
variable (s : State)

theorem keepsMemories_execResetTank (sr : F64) : KeepsMemories s (execResetTank sr s) :=
  keepsMemories_orIllegal fun h => keepsMemories_procedure (rtReset_spec _ _ _ (Bool.and_eq_true_iff.1 h).2)
    fun _ _ ht => State.stays_setTank ht.1.stays

theorem keepsMemories_execFrameTank (sel : BitVec 8) (ops : List Word64) :
    KeepsMemories s (execFrameTank sel ops s) := by
  unfold execFrameTank
  cases frameForm? sel ops.length with
  | none => exact keepsMemories_illegal
  | some io =>
    exact keepsMemories_orIllegal fun _ => keepsMemories_orNotReady fun _ =>
      keepsMemories_procedure (rtFrame_spec _ _ _ _ _ _) fun _ _ h => State.stays_setTank h.stays

theorem keepsMemories_execProcTank (x : F64) : KeepsMemories s (execProcTank x s) := by
  rw [execProcTank_eq]
  refine keepsMemories_orNotReady fun _ => keepsMemories_procedure (monoFrame_spec x _ _) fun _ _ h => ?_
  obtain ⟨_, _, hframe⟩ := h
  exact State.stays_setTank hframe.stays

theorem keepsMemories_execResetFdb (sr : F64) : KeepsMemories s (execResetFdb sr s) :=
  keepsMemories_orIllegal fun _ => by
    cases s.fdb.alloc with
    | false => exact keepsMemories_performed
    | true => exact keepsMemories_performed (State.stays_setFdb id)

theorem keepsMemories_execResetSdelay (sr : F64) : KeepsMemories s (execResetSdelay sr s) := by
  refine keepsMemories_orIllegal fun h => ?_
  have hfit : needsCreate s.sdelay sr = false ∨ fits s.cfg.lmaxLog2 sr s.sdelay.bufMs = true := by
    simpa using (Bool.and_eq_true_iff.1 h).2
  exact keepsMemories_procedure (sdReset_stays hfit) fun _ _ hd => State.stays_setSdelay hd.1

theorem keepsMemories_execCreateSdelay (sr ms : F64) : KeepsMemories s (execCreateSdelay sr ms s) :=
  keepsMemories_orIllegal fun h =>
    keepsMemories_procedure (sdCreate_spec _ _ _ (fits_need (Bool.and_eq_true_iff.1 h).2))
      fun _ _ hd => State.stays_setSdelay hd.1.stays

theorem keepsMemories_execResetApf (sr : F64) : KeepsMemories s (execResetApf sr s) :=
  keepsMemories_orIllegal fun h =>
    keepsMemories_procedure (apfReset_spec _ _ (fits_need (Bool.and_eq_true_iff.1 h).2))
      fun _ _ ⟨⟨_, hline, _⟩, _⟩ => State.stays_setApf hline.stays

theorem keepsMemories_execCreateApf (sr ms : F64) : KeepsMemories s (execCreateApf sr ms s) :=
  keepsMemories_orIllegal fun h =>
    keepsMemories_procedure (apfCreate_created _ (Bool.and_eq_true_iff.1 h).2)
      fun _ _ ⟨⟨hline, _⟩, _⟩ => State.stays_setApf hline.stays

theorem keepsMemories_execResetNapf (sr : F64) : KeepsMemories s (execResetNapf sr s) := by
  refine keepsMemories_orIllegal fun h => ?_
  obtain ⟨h, hinner⟩ := Bool.and_eq_true_iff.1 h
  obtain ⟨-, houter⟩ := Bool.and_eq_true_iff.1 h
  exact keepsMemories_procedure (napfReset_spec _ _ (fits_need houter) (fits_need hinner))
    fun _ _ hn => State.stays_setNapf hn.1.stays

theorem keepsMemories_execCreateNapf (sr mo mi : F64) : KeepsMemories s (execCreateNapf sr mo mi s) := by
  refine keepsMemories_orIllegal fun h => ?_
  obtain ⟨h, hinner⟩ := Bool.and_eq_true_iff.1 h
  obtain ⟨-, houter⟩ := Bool.and_eq_true_iff.1 h
  exact keepsMemories_procedure (napfCreate_created _ houter hinner)
    fun _ _ ⟨⟨⟨ho, _⟩, ⟨hi, _⟩, _⟩, _⟩ => State.stays_setNapf ⟨ho.stays, hi.stays⟩

end

/-- Every command leaves a created memory created: a read command leaves all of them, and the procedures of the others
create, flush, write or switch a buffer. -/
theorem exec_keepsMemories (i : Instr) (s : State) : KeepsMemories s (exec i s) := by
  by_cases hread : i.isRead = true
  · exact (exec_onlyAnswers hread s).keepsMemories
  cases i with
  | ploadTank | ploadBiquad | ploadLfo | ploadOnepole | ploadSdelay | ploadApf | ploadNapf | ploadFilter | ploadShelf
  | setpBiquad | setpOnepole => exact keepsMemories_performed
  | pstageTank | pstageBiquad | pstageLfo | pstageOnepole | pstageSdelay | pstageApf | pstageNapf | pstageFilter
  | pstageShelf | bqwcBiquad => exact keepsMemories_updateOrIllegal _
  | frameBiquad | frameFdb | frameLfo | frameOnepole | frameSdelay | frameApf | frameNapf | frameFilter | frameShelf =>
    exact keepsMemories_frameNotHandled _ _
  | resetBiquad | resetOnepole | resetFilter | resetShelf =>
    exact keepsMemories_orIllegal fun _ => keepsMemories_performed
  | resetLfo => exact keepsMemories_orIllegal fun _ => keepsMemories_elsewhere
  | setpLfo | setpFilter | setpShelf | procBiquad | procOnepole | procFilter | procShelf | renderLfo =>
    exact keepsMemories_elsewhere
  | resetTank sr => exact keepsMemories_execResetTank s sr
  | setpTank => exact keepsMemories_procedure (rtSet_spec _ _ _) fun _ _ h => State.stays_setTank h.1.stays
  | procTank x => exact keepsMemories_execProcTank s x
  | frameTank sel ops => exact keepsMemories_execFrameTank s sel ops
  | createFdb n =>
    exact keepsMemories_orIllegal fun _ => keepsMemories_performed (State.stays_setFdb fun _ => rfl)
  | writeFdb x => exact keepsMemories_orNotReady fun _ => keepsMemories_performed (State.stays_setFdb id)
  | setiFdb v => exact keepsMemories_performed (State.stays_setFdb id)
  | resetFdb sr => exact keepsMemories_execResetFdb s sr
  | createSdelay sr ms => exact keepsMemories_execCreateSdelay s sr ms
  | resetSdelay sr => exact keepsMemories_execResetSdelay s sr
  | setpSdelay => exact keepsMemories_procedure (sdSet_spec _ _) fun _ _ h => State.stays_setSdelay h.1.stays
  | procSdelay x =>
    exact keepsMemories_orNotReady fun _ =>
      keepsMemories_procedure (sdProc_spec _ _) fun _ _ h => State.stays_setSdelay h.1.stays
  | writeSdelay x => exact keepsMemories_orNotReady fun _ => keepsMemories_performed (State.stays_setSdelay id)
  | createApf sr ms => exact keepsMemories_execCreateApf s sr ms
  | resetApf sr => exact keepsMemories_execResetApf s sr
  | setpApf => exact keepsMemories_procedure (apfSet_spec _ _) fun _ _ ⟨⟨hline, _⟩, _⟩ => State.stays_setApf hline.stays
  | procApf x =>
    exact keepsMemories_orNotReady fun _ =>
      keepsMemories_procedure (apfProc_spec _ _ _) fun _ _ h => State.stays_setApf h.stays
  | createNapf sr mo mi => exact keepsMemories_execCreateNapf s sr mo mi
  | resetNapf sr => exact keepsMemories_execResetNapf s sr
  | setpNapf => exact keepsMemories_procedure (napfSet_spec _ _) fun _ _ h => State.stays_setNapf h.1.stays
  | procNapf x =>
    exact keepsMemories_orNotReady fun _ =>
      keepsMemories_procedure (napfProc_spec _ _ _) fun _ _ h => State.stays_setNapf h.stays
  | _ => exact absurd rfl hread

/-- A step waits, refuses a request that is no command, or runs a command (30_encoding.md R110). -/
theorem step_keepsMemories (s : State) : KeepsMemories s (step s) := by
  unfold step
  split
  · exact ⟨_, rfl, .refl s⟩
  · next i rest _ => exact exec_keepsMemories i (s.setRx rest)
  · next rest _ => exact keepsMemories_illegal (s := s.setRx rest)

end Sys2Proof.Machine

open Sys2Proof Sys2Proof.Machine

/-- Settles O18: every outcome of a step keeps the memories that were created. -/
theorem memoriesStayCreated : Obligations.MemoriesStayCreated := by
  intro s t h
  obtain ⟨t', e, hstays⟩ := step_keepsMemories s
  exact Host.Outcome.next.inj (e.symm.trans h) ▸ hstays
end
